-- ==== Sys2Proof/Word.lean ====
section
/-! DEFINITION. The word types of the CS-410: window words, halves, bytes and word addresses. -/

namespace Sys2Proof

/-- A window word: 32 bits (spec/00_scope.md, Units and number forms). -/
abbrev Word := BitVec 32

/-- Half of a window word, and the width of the host bus and of the four registers (R161, R164). -/
abbrev Half := BitVec 16

/-- One byte of the window. -/
abbrev Byte := BitVec 8

/-- The address of a window word, 0 to 2047 (R161). -/
abbrev WordAddr := BitVec 11

/-- A position of the key matrix, 0 to 47: column × 6 + row (R120). -/
abbrev Position := Fin 48

end Sys2Proof
end

