-- ==== Sys2Proof/Syntax.lean ====
section
/-! DEFINITION. The commands of the CS-410: one constructor of `Instr` for each row of spec/opcode_table.json. -/

namespace Sys2Proof

/-- One measurement of a sensor channel (R1): a reading at the converter's low rail (OPEN), at its high rail (SHORT), or a
temperature code, signed, in sixteenths of a degree, −2048 to +2047. -/
inductive Measurement where
  | lowRail
  | highRail
  | code (c : BitVec 12)
  deriving DecidableEq, Repr

/-- What a read of the EEPROM image brought (R197, R199): no answer at the transfer of a word, or the words read. -/
inductive ReadBack where
  | noAnswer (word : Fin 153)
  | words (ws : List Word)
  deriving DecidableEq, Repr

/-- How far an intake trigger carries the order that it takes (R172 to R175): to its answer, and the completion's own trigger
with it, until no order is left to take; or to its take alone, so that another event can fall before its completion. -/
inductive IntakeReach where
  | toAnswer
  | toTake
  deriving DecidableEq, Repr

/-- The first operand of a command that is an intake trigger, or ends in one: the time since the command before it, and how far the
trigger goes. -/
structure TriggerTime where
  dt : Nat
  reach : IntakeReach
  deriving DecidableEq, Repr

/-- The first operand of an expiry by which HBW can fail the computer: the time since the command before it, and the intake
trigger, if one comes, between HBW's decision and PSQ's carrying it out (R102). -/
structure ExpiryTime where
  dt : Nat
  between : Option IntakeReach
  deriving DecidableEq, Repr

/-- What OPERATOR_RESTART stands for (R115, R135): a key's conditions met and its failure sent; the failures sent from here on
staying on their way to HBW; or the arrival of one of them. -/
inductive OperatorPart where
  | fire
  | delay
  | arrive
  deriving DecidableEq, Repr

/-- The first operand of OPERATOR_RESTART: the time since the command before it, and what it stands for. -/
structure OperatorTime where
  dt : Nat
  part : OperatorPart
  deriving DecidableEq, Repr

/-- Which part of an order's life a command stands for (R172 to R174): its take with its examination and effect; its
completion, with the trigger that this is; or the two without another event between. -/
inductive OrderPhase where
  | carryOut
  | complete (next : IntakeReach)
  | whole (next : IntakeReach)
  deriving DecidableEq, Repr

/-- When PSQ and HBW make their checks of a control period: R30 and R71 let them fall on either side of the period's
allocation. -/
inductive PsqTurn where
  | beforeAllocation
  | afterAllocation
  deriving DecidableEq, Repr

/-- A command to the part. Every command's first operand `dt`, or `now` with its field `dt`, is the time in microseconds since the
command before it: the moment of a command is part of it, since the part's timers run in real time. -/
inductive Instr where
  /-- SUPPLY_RESET: VDD is at the level given, in millivolts (R198, R202). -/
  | supplyReset (dt : Nat) (vddMv : Nat)
  /-- PIN_RESET: RESET_N has been held low for the time given, in nanoseconds (R198, R202). -/
  | pinReset (dt : Nat) (lowNs : Nat)
  /-- RESET_END: the supply is above its threshold and RESET_N is released (R198). -/
  | resetEnd (dt : Nat)
  /-- START_UP_LOAD: the EEPROM image read of LOADING is over (R199). -/
  | startUpLoad (dt : Nat) (image : ReadBack)
  /-- EEPROM_ACK_TIMEOUT: 10 ms without the EEPROM's acknowledge, at the transfer of a word (R197, R199); a store's
  completion is the trigger. -/
  | eepromAckTimeout (now : TriggerTime) (word : Fin 153)
  /-- CONTROL_PERIOD: the period timer expires, with the six channels' measurements (R13). -/
  | controlPeriod (dt : Nat) (ms : Vector Measurement 6) (turn : PsqTurn)
  /-- UPTIME_TICK (R166). -/
  | uptimeTick (dt : Nat)
  /-- TACH_EDGE: a falling edge on a fan's tach input (R55). -/
  | tachEdge (dt : Nat) (fan : Fin 2)
  /-- TACH_OVERRUN (R55). -/
  | tachOverrun (dt : Nat) (fan : Fin 2)
  /-- HOST_PG_CHANGE: the HOST_PG input is at the level given (R68). -/
  | hostPgChange (dt : Nat) (level : Bool)
  /-- PG_DEGLITCH_EXPIRY (R68). -/
  | pgDeglitchExpiry (dt : Nat)
  /-- SETTLE_TIMER_EXPIRY (R72). -/
  | settleTimerExpiry (dt : Nat)
  /-- POWER_GOOD_TIMER_EXPIRY (R73). -/
  | powerGoodTimerExpiry (dt : Nat)
  /-- PULSE_TIMER_EXPIRY (R80). -/
  | pulseTimerExpiry (dt : Nat)
  /-- OFF_TIMER_EXPIRY (R81). -/
  | offTimerExpiry (dt : Nat)
  /-- DELAY_TIMER_EXPIRY (R83). -/
  | delayTimerExpiry (dt : Nat)
  /-- RETRY_TIMER_EXPIRY (R89). -/
  | retryTimerExpiry (dt : Nat)
  /-- BOOT_DEADLINE_EXPIRY (R99). -/
  | bootDeadlineExpiry (now : ExpiryTime)
  /-- WATCH_TIMER_EXPIRY (R100). -/
  | watchTimerExpiry (now : ExpiryTime)
  /-- GRACE_TIMER_EXPIRY (R101). -/
  | graceTimerExpiry (now : ExpiryTime)
  /-- WINDOW_LOW_HALF_WRITE: the host writes the low half of a word (R162). -/
  | windowLowHalfWrite (dt : Nat) (word : WordAddr) (half : Half)
  /-- WINDOW_HIGH_HALF_WRITE: the host writes the high half of a word (R162). -/
  | windowHighHalfWrite (dt : Nat) (word : WordAddr) (half : Half)
  /-- WINDOW_LOW_HALF_READ (R163). -/
  | windowLowHalfRead (dt : Nat) (word : WordAddr)
  /-- WINDOW_HIGH_HALF_READ (R163). -/
  | windowHighHalfRead (dt : Nat) (word : WordAddr)
  /-- ATTACH: a commit of 1 to word 32 (R168). -/
  | attach (dt : Nat)
  /-- DETACH: a commit of 2 to word 32 (R170). -/
  | detach (dt : Nat)
  /-- ORDER_WRITE_INDEX: a commit of word 38 (R171). -/
  | orderWriteIndex (dt : Nat) (value : Word)
  /-- REPORT_READ_INDEX: a commit of word 39 (R171). -/
  | reportReadIndex (dt : Nat) (value : Word)
  /-- HEARTBEAT: a commit of word 40 (R96). -/
  | heartbeat (dt : Nat) (value : Word)
  /-- NUDGE: a write of any value to register 1 (R164, R172). -/
  | nudge (now : TriggerTime) (value : Half)
  /-- NOTICE: a write to register 2 (R164). -/
  | notice (dt : Nat) (value : Half)
  /-- NOTICE_ENABLE: a write to register 3 (R164). -/
  | noticeEnable (dt : Nat) (value : Half)
  /-- REGISTER_WRITE_IGNORED: a write to IDENT, register 0 (R164). -/
  | registerWriteIgnored (dt : Nat) (value : Half)
  /-- INTAKE_POLL_TIMER_EXPIRY (R172). -/
  | intakePollTimerExpiry (now : TriggerTime)
  /-- NO_OP: order 1 (R176). -/
  | noOp (dt : Nat) (phase : OrderPhase)
  /-- READ_SETTING: order 2 (R193). -/
  | readSetting (dt : Nat) (phase : OrderPhase)
  /-- WRITE_SETTING: order 3 (R194). -/
  | writeSetting (dt : Nat) (phase : OrderPhase)
  /-- STORE_SETTINGS: order 4 (R197). -/
  | storeSettings (dt : Nat) (phase : OrderPhase)
  /-- STORE_SETTINGS_END: the store's read-back is over, or a transfer had no answer (R197). -/
  | storeSettingsEnd (now : TriggerTime) (result : ReadBack)
  /-- STORE_TIMEOUT: 400 ms since the store began, with the word in transfer (R197). -/
  | storeTimeout (now : TriggerTime) (word : Fin 153)
  /-- RESTORE_DEFAULTS: order 5 (R195). -/
  | restoreDefaults (dt : Nat) (phase : OrderPhase)
  /-- SNAPSHOT: order 6 (R177, R178). -/
  | snapshot (dt : Nat) (phase : OrderPhase)
  /-- ARM_WATCH: order 7 (R103). -/
  | armWatch (dt : Nat) (phase : OrderPhase)
  /-- DISARM_WATCH: order 8 (R104). -/
  | disarmWatch (dt : Nat) (phase : OrderPhase)
  /-- REQUEST_RESTART: order 9 (R113). -/
  | requestRestart (dt : Nat) (phase : OrderPhase)
  /-- REQUEST_STANDBY: order 10 (R82). -/
  | requestStandby (dt : Nat) (phase : OrderPhase)
  /-- CLEAR_HISTORY: order 11 (R114). -/
  | clearHistory (dt : Nat) (phase : OrderPhase)
  /-- LOAD_KEYMAP: order 12 (R145, R146). -/
  | loadKeymap (dt : Nat) (phase : OrderPhase)
  /-- UNMASK_KEY: order 13 (R147). -/
  | unmaskKey (dt : Nat) (phase : OrderPhase)
  /-- RESET_FILTER: order 14 (R63). -/
  | resetFilter (dt : Nat) (phase : OrderPhase)
  /-- SLOW_SCAN: a scan in SLOW, bit p of `raw` being 1 where position p reads DOWN (R125). -/
  | slowScan (dt : Nat) (raw : BitVec 48)
  /-- ACTIVE_SCAN: a scan in ACTIVE, `raw` as for SLOW_SCAN (R126). -/
  | activeScan (dt : Nat) (raw : BitVec 48)
  /-- ACTIVITY_TIMER_EXPIRY (R124). -/
  | activityTimerExpiry (dt : Nat)
  /-- REPEAT_DELAY (R133). -/
  | repeatDelay (dt : Nat) (pos : Position)
  /-- REPEAT_INTERVAL (R133). -/
  | repeatInterval (dt : Nat) (pos : Position)
  /-- STUCK_TIME (R137). -/
  | stuckTime (dt : Nat) (pos : Position)
  /-- CHATTER_QUIET_TIME (R139). -/
  | chatterQuietTime (dt : Nat) (pos : Position)
  /-- CHATTER_WINDOW_RESTART (R138). -/
  | chatterWindowRestart (dt : Nat)
  /-- CHORD_FIRE (R141). -/
  | chordFire (dt : Nat)
  /-- SERVICE_WINDOW_CLOSE (R143). -/
  | serviceWindowClose (dt : Nat)
  /-- OPERATOR_RESTART (R115, R135); the position counts for `fire` alone. -/
  | operatorRestart (now : OperatorTime) (pos : Position)
  /-- FRAME_START (R153). -/
  | frameStart (dt : Nat)
  /-- GROUP_SLOT (R150). -/
  | groupSlot (dt : Nat)
  /-- LAMP_TEST_EXPIRY (R159). -/
  | lampTestExpiry (dt : Nat)
  /-- HEATER_ON_TIME_END: a zone's heater reaches the end of its on time (R39). -/
  | heaterOnTimeEnd (dt : Nat) (zone : Fin 4)
  deriving DecidableEq, Repr

end Sys2Proof
end

