-- ==== Sys2Proof/Config.lean ====
section
/-! DEFINITION. The constants the spec fixes for every part: fixed times, sizes and identity values. The model's clock
counts microseconds, so every fixed time stands here in microseconds. The spec leaves no value open to the
implementation, so no constant here is a free value. -/

namespace Sys2Proof.Config

/-- The identity value 0x2901 that IDENT reads and anchor word 0 carries (R164, R179). -/
def ident : Half := 0x2901#16

/-- Anchor word 0: the IDENT value below, the number 410 above (R179). -/
def identityWord : Word := 0x019A2901#32

/-- One tick of uptime, 10 ms. -/
def tickUs : Nat := 10000

/-- The control period and the heater frame, 250 ms (R200, R39). -/
def controlPeriodUs : Nat := 250000

/-- HOST_PG holds a new level this long before PG seen changes, 2 ms (R68). -/
def deglitchUs : Nat := 2000

/-- The settle of power good, 50 ms (R72). -/
def settleUs : Nat := 50000

/-- The power-good timer, 2 s (R72). -/
def powerGoodUs : Nat := 2000000

/-- The reset pulse, 200 ms (R80). -/
def pulseUs : Nat := 200000

/-- The intake poll, 50 ms (R165). -/
def intakePollUs : Nat := 50000

/-- The indicator frame, 20 ms (R150). -/
def frameUs : Nat := 20000

/-- One group slot of an indicator frame, 5 ms (R150). -/
def slotUs : Nat := 5000

/-- The lamp test, 2 s (R159). -/
def lampTestUs : Nat := 2000000

/-- Between full scans in ACTIVE, 5 ms (R124). -/
def activeScanUs : Nat := 5000

/-- Between scans in SLOW, 50 ms (R124). -/
def slowScanUs : Nat := 50000

/-- The activity timer, 2 s (R124). -/
def activityUs : Nat := 2000000

/-- The chatter window, 1 s (R138). -/
def chatterWindowUs : Nat := 1000000

/-- The longest a STORE_SETTINGS may take, 400 ms (R197). -/
def storeUs : Nat := 400000

/-- The EEPROM's device address is awaited this long, 10 ms (R197, R199). -/
def ackUs : Nat := 10000

/-- VDD stays above its threshold this long before a supply reset ends, 10 ms (R202). -/
def supplyHoldUs : Nat := 10000

/-- A supply reset is taken while VDD is below 2.75 V (R202), in millivolts. -/
def supplyThresholdMv : Nat := 2750

/-- A RESET_N pulse shorter than 1 µs is not taken (R202), in nanoseconds. -/
def pinResetNs : Nat := 1000

/-- A tach count that passes this many microseconds is overrun (R55). -/
def tachMax : Nat := 65535

/-- The overheat dwell at which overheat complete is signalled (R25). -/
def dwellMax : Nat := 40

/-- The restart history holds at most this many records (R110). -/
def historyMax : Nat := 8

/-- The holding list holds at most this many reports (R185). -/
def holdingMax : Nat := 16

/-- The window's size in bytes, 8 KiB. -/
def windowBytes : Nat := 8192

/-- The words of the EEPROM image (R196). -/
def imageWords : Nat := 153

/-- The image's signature (R196). -/
def imageSignature : Word := 0x4F524443#32

end Sys2Proof.Config
end

