-- ==== Sys2Proof/Machine/Types.lean ====
section
/-! DEFINITION. The names and small records of the CS-410's blocks: states, causes, codes and the records of the layouts. -/

namespace Sys2Proof.Machine

/-! ## Sensor channels and zones -/

/-- Status of a sensor channel (R2). -/
inductive ChannelStatus where
  | good | suspect | failed
  deriving DecidableEq, Repr

/-- State of a heater zone (R11). -/
inductive ZoneState where
  | idle | heating | soaking | ready | tripped
  deriving DecidableEq, Repr

/-- The channel that overheat detection reads (R24). -/
inductive OverheatSource where
  | ts0 | exhaust | none
  deriving DecidableEq, Repr

/-- The settings of one zone, as the zone's rules take them (R9). -/
structure ZoneSettings where
  setpoint : Int
  release : Int
  soak : Nat
  gain : Nat
  cls : Nat
  rating : Nat
  gating : Bool
  standbyHeat : Bool
  deriving DecidableEq, Repr

/-- The settings of one fan (R49). -/
structure FanSettings where
  mode : Nat
  fixedDuty : Nat
  minDuty : Nat
  stirDuty : Nat
  fullSpeed : Nat
  stallFraction : Nat
  cls : Nat
  rating : Nat
  deriving DecidableEq, Repr

/-- The tach count of a fan (R55): no previous edge, running since a moment of the clock, or overrun. -/
inductive TachCount where
  | noEdge
  | running (since : Nat)
  | overrun
  deriving DecidableEq, Repr

/-- The tach capture of a fan (R50): none, or a period in µs with its read mark. -/
inductive Capture where
  | none
  | unread (period : Nat)
  | read (period : Nat)
  deriving DecidableEq, Repr

/-! ## Sequencer and watch -/

/-- State of the power sequencer (R66). -/
inductive SeqState where
  | standby | heating | powering | booting | running | warned | restarting | cycling | shutdown | holdoff
  deriving DecidableEq, Repr

/-- Holdoff reason (R66). -/
inductive HoldoffReason where
  | none | escalation | overheat
  deriving DecidableEq, Repr

/-- Where SHUTDOWN leads (R66). -/
inductive ShutdownTarget where
  | standby | holdoffOverheat
  deriving DecidableEq, Repr

/-- The decisions and recorded actions of HBW (R106, R109). -/
inductive Action where
  | warm | cold | holdoff
  deriving DecidableEq, Repr

/-- A timer that runs toward a length copied at its start, both in µs of the clock. -/
structure Countdown where
  start : Nat
  length : Nat
  deriving DecidableEq, Repr

/-- The delay timer of SHUTDOWN (R66). -/
inductive DelayTimer where
  | stopped
  | waiting (seconds : Nat)
  | running (c : Countdown)
  deriving DecidableEq, Repr

/-- Watch phase (R94). -/
inductive WatchPhase where
  | none | boot | watch | grace | disarmed
  deriving DecidableEq, Repr

/-- Arming source (R94). -/
inductive ArmSource where
  | settings | order
  deriving DecidableEq, Repr

/-- The causes of a failure (R105). -/
inductive Cause where
  | bootTimeout | watchExpired | pgTimeout | pgLost | hostWarm | hostCold | operator | overheat | pinReset
  deriving DecidableEq, Repr

/-- The kinds of cause (R105). -/
inductive CauseKind where
  | automatic | requested | protective | external
  deriving DecidableEq, Repr

/-- A restart history record (R109). -/
structure HistoryRecord where
  sequence : Nat
  cause : Cause
  kind : CauseKind
  action : Action
  counted : Bool
  stamp : Word
  z0Temp : Option Int
  heartbeat : Word
  heartbeatAge : Word
  lastOrder : Nat
  seqState : SeqState
  attached : Bool
  deriving DecidableEq, Repr

/-! ## Keypad -/

/-- Class of a key (R120). -/
inductive KeyClass where
  | normal | repeating
  deriving DecidableEq, Repr

/-- Routing of a key (R120). -/
inductive Routing where
  | report | localOnly | both
  deriving DecidableEq, Repr

/-- Local action of a key (R120). -/
inductive LocalAction where
  | none | wake | lampTest | operatorRestart
  deriving DecidableEq, Repr

/-- The settings part of a key table entry (R120). -/
structure KeyEntry where
  code : Nat
  cls : KeyClass
  chord : Bool
  routing : Routing
  action : LocalAction
  deriving DecidableEq, Repr

/-- Mask of a key (R121). -/
inductive Mask where
  | none | stuck | chatter
  deriving DecidableEq, Repr

/-- Scan mode (R122). -/
inductive ScanMode where
  | slow | active
  deriving DecidableEq, Repr

/-- Chord state (R122). -/
inductive ChordState where
  | idle | holding | fired
  deriving DecidableEq, Repr

/-! ## Lamps -/

/-- A lamp's shown mode (R151). -/
inductive LampMode where
  | off | on | slow | fast
  deriving DecidableEq, Repr

/-- Where a lamp's mode comes from (R152). -/
inductive LampSource where
  | dark | host | role | test
  deriving DecidableEq, Repr

/-- The six roles (R153). -/
inductive Role where
  | power | heat | alarm | filter | service | fan
  deriving DecidableEq, Repr

/-- A lamp number 0 to 15, or 255 for none, for each role (R152). -/
structure RoleLamps where
  power : Nat
  heat : Nat
  alarm : Nat
  filter : Nat
  service : Nat
  fan : Nat
  deriving DecidableEq, Repr

/-! ## Exchange and reports -/

/-- Exchange state (R165). -/
inductive ExchangeState where
  | detached | attached
  deriving DecidableEq, Repr

/-- Detach reason (R165). -/
inductive DetachReason where
  | none | hostRequest | hostRestart | indexFault | attachFailed
  deriving DecidableEq, Repr

/-- Attach result (R165). -/
inductive AttachResult where
  | none | ok | rev | orderSize | reportSize | orderPlace | reportPlace | overlap
  deriving DecidableEq, Repr

/-- The layout copy (R165): bases as word addresses, masks as the host gave them. -/
structure Layout where
  orderBase : Nat
  orderMask : Nat
  reportBase : Nat
  reportMask : Nat
  deriving DecidableEq, Repr

/-- RPU's view of the report queue (R183). -/
structure QueueView where
  base : Nat
  mask : Nat
  deriving DecidableEq, Repr

/-- A half kept with the word it belongs to: the staging latch (R162) and the read latch (R163). -/
structure Latch where
  word : WordAddr
  half : Half
  deriving DecidableEq, Repr

/-- The 8 words of an order record as taken (R172, R180). -/
structure OrderRecord where
  w0 : Word
  w1 : Word
  w2 : Word
  w3 : Word
  w4 : Word
  w5 : Word
  w6 : Word
  w7 : Word
  deriving DecidableEq, Repr

/-- Outcome codes (R173). -/
inductive OrderOutcome where
  | done | clamped | unknown | badOperand | wrongState | locked | failed | skipped
  deriving DecidableEq, Repr

/-- What an order came to: outcome, result value and result detail (R174). -/
structure OrderResult where
  outcome : OrderOutcome
  value : Word
  detail : Word
  deriving DecidableEq, Repr

/-- The order in hand (R165): the record, the word address of its entry, whether its outcome is marked to be discarded, and
its result once that is known (R174: all but a STORE_SETTINGS under way). -/
structure OrderInHand where
  record : OrderRecord
  entry : Nat
  discard : Bool
  result : Option OrderResult
  deriving DecidableEq, Repr

/-- The orders of the order queue (the table of codes before R172). -/
inductive OrderKind where
  | noOp | readSetting | writeSetting | storeSettings | restoreDefaults | snapshot | armWatch | disarmWatch
  | requestRestart | requestStandby | clearHistory | loadKeymap | unmaskKey | resetFilter
  deriving DecidableEq, Repr

/-- Report kinds (R182). -/
inductive ReportKind where
  | keyDown | keyUp | keyRepeat | keyMasked | keyUnmasked | service | zoneReady | zoneSensor | heatSlow | zoneTrip
  | fanFault | filter | budgetShort | watchWarn | boot | settingsDefaulted | overflow
  deriving DecidableEq, Repr

/-- A report as handed to RPU, before it is numbered (R182). -/
structure ReportBody where
  kind : ReportKind
  source : Nat
  detail : Nat
  value : Int
  deriving DecidableEq, Repr

/-- A report record (R180). -/
structure Report where
  kind : ReportKind
  source : Nat
  detail : Nat
  value : Int
  stamp : Word
  number : Word
  deriving DecidableEq, Repr

/-- Settings source (R191). -/
inductive SettingsSource where
  | stored | defaults
  deriving DecidableEq, Repr

/-- Store state (R191). -/
inductive StoreState where
  | idle | loading | storing
  deriving DecidableEq, Repr

/-- The mirror sections (R167). -/
inductive Section where
  | climate | supervision | panel
  deriving DecidableEq, Repr

/-- The two part resets (R198). -/
inductive ResetKind where
  | supply | pin
  deriving DecidableEq, Repr

/-- The settings table: one value for each number 0 to 101, 0 in the unknown ones (R191, R196). -/
abbrev SettingsTable := Vector Int 102

/-- The settings part of the key table (R191). -/
abbrev KeyMap := Vector KeyEntry 48

/-- The copy of the table and key map that STORE_SETTINGS takes (R191). -/
structure StoreCopy where
  table : SettingsTable
  keymap : KeyMap
  deriving DecidableEq, Repr

end Sys2Proof.Machine
end

