-- ==== Sys2Proof/Machine/Bits.lean ====
section
/-! DEFINITION. Bit fields of window words, and the codes that the layouts give to names (R179, R180, R181). -/

namespace Sys2Proof.Machine

/-- A value placed in a field of a word: `len` bits from bit `lo` up, the field's own bits only. -/
def fieldAt (lo len v : Nat) : Word := BitVec.ofNat 32 (v % 2 ^ len) <<< lo

/-- The value of a word's field. -/
def fieldOf (lo len : Nat) (w : Word) : Nat := (w.toNat / 2 ^ lo) % 2 ^ len

/-- The word of a signed value, sign-extended (00_scope.md, Temperature). -/
def signedWord (v : Int) : Word := BitVec.ofInt 32 v

/-- 1 for true, 0 for false. -/
def boolCode (b : Bool) : Nat := if b then 1 else 0

/-- A function on each element of a vector. -/
def onEach {α β : Type} {n : Nat} (f : α → β) (v : Vector α n) : Vector β n := Vector.ofFn fun i => f v[i]

/-- The low half of a word, bits 0 to 15. -/
def lowHalf (w : Word) : Half := w.extractLsb' 0 16

/-- The high half of a word, bits 16 to 31. -/
def highHalf (w : Word) : Half := w.extractLsb' 16 16

/-- The word of a low and a high half. -/
def joinHalves (lo hi : Half) : Word := hi ++ lo

/-- The temperature of a converter code: signed sixteenths of a degree (R1). -/
def temperatureOf (c : BitVec 12) : Int := c.toInt

/-- The none marker of a temperature (R2, R8). -/
def noTemperature : Int := -32768

/-- A temperature, or the none marker. -/
def temperatureOrNone (t : Option Int) : Int := t.getD noTemperature

/-- R181, channel status. -/
def ChannelStatus.code : ChannelStatus → Nat
  | .good => 0 | .suspect => 1 | .failed => 2

/-- R181, zone state. -/
def ZoneState.code : ZoneState → Nat
  | .idle => 0 | .heating => 1 | .soaking => 2 | .ready => 3 | .tripped => 4

/-- R181, overheat source. -/
def OverheatSource.code : OverheatSource → Nat
  | .ts0 => 0 | .exhaust => 5 | .none => 255

/-- R92, sequencer state. -/
def SeqState.code : SeqState → Nat
  | .standby => 0 | .heating => 1 | .powering => 2 | .booting => 3 | .running => 4 | .warned => 5 | .restarting => 6
  | .cycling => 7 | .shutdown => 8 | .holdoff => 9

/-- The sequencer state of a code of R92; STANDBY for a code that no record holds (log 22). -/
def SeqState.ofCode : Nat → SeqState
  | 1 => .heating | 2 => .powering | 3 => .booting | 4 => .running | 5 => .warned | 6 => .restarting
  | 7 => .cycling | 8 => .shutdown | 9 => .holdoff | _ => .standby

/-- R92, holdoff reason. -/
def HoldoffReason.code : HoldoffReason → Nat
  | .none => 0 | .escalation => 1 | .overheat => 2

/-- R92, shutdown target. -/
def ShutdownTarget.code : ShutdownTarget → Nat
  | .standby => 0 | .holdoffOverheat => 1

/-- R109, action. -/
def Action.code : Action → Nat
  | .warm => 1 | .cold => 2 | .holdoff => 3

/-- The action of a code of R109; WARM for a code that no record holds (log 22). -/
def Action.ofCode : Nat → Action
  | 2 => .cold | 3 => .holdoff | _ => .warm

/-- R118, watch phase. -/
def WatchPhase.code : WatchPhase → Nat
  | .none => 0 | .boot => 1 | .watch => 2 | .grace => 3 | .disarmed => 4

/-- R118, arming source. -/
def ArmSource.code : ArmSource → Nat
  | .settings => 0 | .order => 1

/-- R105, cause. -/
def Cause.code : Cause → Nat
  | .bootTimeout => 1 | .watchExpired => 2 | .pgTimeout => 3 | .pgLost => 4 | .hostWarm => 5 | .hostCold => 6
  | .operator => 7 | .overheat => 8 | .pinReset => 9

/-- The cause of a code of R105; PIN_RESET for a code that no record holds (log 22). -/
def Cause.ofCode : Nat → Cause
  | 1 => .bootTimeout | 2 => .watchExpired | 3 => .pgTimeout | 4 => .pgLost | 5 => .hostWarm | 6 => .hostCold
  | 7 => .operator | 8 => .overheat | _ => .pinReset

/-- R105, kind. -/
def CauseKind.code : CauseKind → Nat
  | .automatic => 1 | .requested => 2 | .protective => 3 | .external => 4

/-- The kind of a code of R105; EXTERNAL for a code that no record holds (log 22). -/
def CauseKind.ofCode : Nat → CauseKind
  | 1 => .automatic | 2 => .requested | 3 => .protective | _ => .external

/-- R180, key class. -/
def KeyClass.code : KeyClass → Nat
  | .normal => 0 | .repeating => 1

/-- R180, routing. -/
def Routing.code : Routing → Nat
  | .report => 0 | .localOnly => 1 | .both => 2

/-- R180, local action. -/
def LocalAction.code : LocalAction → Nat
  | .none => 0 | .wake => 1 | .lampTest => 2 | .operatorRestart => 3

/-- R149, scan mode. -/
def ScanMode.code : ScanMode → Nat
  | .slow => 0 | .active => 1

/-- R149, chord state. -/
def ChordState.code : ChordState → Nat
  | .idle => 0 | .holding => 1 | .fired => 2

/-- R157, R160, lamp mode. -/
def LampMode.code : LampMode → Nat
  | .off => 0 | .on => 1 | .slow => 2 | .fast => 3

/-- The lamp mode of a two-bit code (R157). -/
def LampMode.ofCode : Nat → LampMode
  | 1 => .on | 2 => .slow | 3 => .fast | _ => .off

/-- R160, source. -/
def LampSource.code : LampSource → Nat
  | .dark => 0 | .host => 1 | .role => 2 | .test => 3

/-- R179, exchange state. -/
def ExchangeState.code : ExchangeState → Nat
  | .detached => 0 | .attached => 1

/-- R179, detach reason. -/
def DetachReason.code : DetachReason → Nat
  | .none => 0 | .hostRequest => 1 | .hostRestart => 2 | .indexFault => 3 | .attachFailed => 4

/-- R179, attach result. -/
def AttachResult.code : AttachResult → Nat
  | .none => 0 | .ok => 1 | .rev => 2 | .orderSize => 3 | .reportSize => 4 | .orderPlace => 5 | .reportPlace => 6
  | .overlap => 7

/-- R173, outcome. -/
def OrderOutcome.code : OrderOutcome → Nat
  | .done => 1 | .clamped => 2 | .unknown => 3 | .badOperand => 4 | .wrongState => 5 | .locked => 6 | .failed => 7
  | .skipped => 8

/-- R182, report kind. -/
def ReportKind.code : ReportKind → Nat
  | .keyDown => 1 | .keyUp => 2 | .keyRepeat => 3 | .keyMasked => 4 | .keyUnmasked => 5 | .service => 6
  | .zoneReady => 7 | .zoneSensor => 8 | .heatSlow => 9 | .zoneTrip => 10 | .fanFault => 11 | .filter => 12
  | .budgetShort => 13 | .watchWarn => 14 | .boot => 15 | .settingsDefaulted => 16 | .overflow => 17

/-- R179, settings source. -/
def SettingsSource.code : SettingsSource → Nat
  | .stored => 0 | .defaults => 1

/-- R179, last reset cause. -/
def ResetKind.code : ResetKind → Nat
  | .supply => 1 | .pin => 2

/-- A report record's four words (R180). -/
def Report.words (r : Report) : List Word :=
  [fieldAt 0 8 r.kind.code ||| fieldAt 8 8 r.source ||| fieldAt 16 16 r.detail, signedWord r.value, r.stamp, r.number]

/-- A history record's eight words (R180). -/
def HistoryRecord.words (r : HistoryRecord) : List Word :=
  [fieldAt 0 16 r.sequence ||| fieldAt 16 4 r.cause.code ||| fieldAt 20 3 r.kind.code ||| fieldAt 24 2 r.action.code
      ||| fieldAt 28 1 (boolCode r.counted),
    r.stamp, signedWord (temperatureOrNone r.z0Temp), r.heartbeat, r.heartbeatAge,
    fieldAt 0 8 r.lastOrder ||| fieldAt 8 4 r.seqState.code ||| fieldAt 16 1 (boolCode r.attached), 0#32, 0#32]

/-- The history record that eight words of the region hold (R119 step 1, R180). -/
def HistoryRecord.ofWords (w0 w1 w2 w3 w4 w5 : Word) : HistoryRecord :=
  { sequence := fieldOf 0 16 w0, cause := .ofCode (fieldOf 16 4 w0), kind := .ofCode (fieldOf 20 3 w0),
    action := .ofCode (fieldOf 24 2 w0), counted := fieldOf 28 1 w0 == 1, stamp := w1,
    z0Temp := if w2.toInt = noTemperature then none else some w2.toInt, heartbeat := w3, heartbeatAge := w4,
    lastOrder := fieldOf 0 8 w5, seqState := .ofCode (fieldOf 8 4 w5), attached := fieldOf 16 1 w5 == 1 }

/-- The key map word of an entry (R180). -/
def KeyEntry.word (e : KeyEntry) : Word :=
  fieldAt 0 8 e.code ||| fieldAt 8 1 e.cls.code ||| fieldAt 9 1 (boolCode e.chord) ||| fieldAt 10 2 e.routing.code
    ||| fieldAt 12 2 e.action.code

/-- The entry that a key map word gives, none where a field is outside its values or a bit outside the fields is set
(R145, R180). -/
def KeyEntry.ofWord (w : Word) : Option KeyEntry :=
  let routing : Option Routing := match fieldOf 10 2 w with
    | 0 => some .report | 1 => some .localOnly | 2 => some .both | _ => none
  let action : LocalAction := match fieldOf 12 2 w with
    | 1 => .wake | 2 => .lampTest | 3 => .operatorRestart | _ => .none
  if fieldOf 14 18 w ≠ 0 then none
  else routing.map fun r =>
    { code := fieldOf 0 8 w, cls := if fieldOf 8 1 w = 1 then .repeating else .normal, chord := fieldOf 9 1 w == 1,
      routing := r, action := action }

end Sys2Proof.Machine
end

