-- ==== Sys2Proof/Machine/Defaults.lean ====
section
/-! DEFINITION. The settings' defaults and the default key map (R190, R9, R49, R90, R95, R120, R123, R153). -/

namespace Sys2Proof.Machine

/-- The defaults of settings 0 to 7. -/
def defaultsGeneral : List Int := [150, 60, 80, 45, 1360, 1520, 0, 0]

/-- The defaults of a zone's eight settings (R9), given those that differ between zones: Ts, Tr, class, rating and the two
flags. -/
def defaultsZone (ts tr cls w gating standby : Int) : List Int := [ts, tr, 38400, 16, cls, w, gating, standby]

/-- The defaults of a fan's eight settings (R49). -/
def defaultsFan : List Int := [2, 128, 0, 0, 4000, 64, 0, 8]

/-- The defaults of settings 0 to 101, 0 for the unknown numbers. -/
def defaultsList : List Int :=
  defaultsGeneral
  ++ defaultsZone 240 0 0 40 1 0 ++ defaultsZone 160 (-80) 0 30 1 0
  ++ defaultsZone 160 (-160) 1 120 1 0 ++ defaultsZone 80 (-240) 1 20 0 1
  ++ defaultsFan ++ defaultsFan
  ++ [480, 800, 192, 0, 0, 0, 0, 0]
  ++ [1, 180, 30, 5, 3600, 3, 5, 5, 0, 0, 0, 0, 0, 0, 0, 0]
  ++ [4, 500, 100, 60, 20, 300, 3, 60, 0, 0, 0, 0, 0, 0, 0, 0]
  ++ [0, 1, 2, 3, 4, 5]

/-- The settings table with every setting at its default (R190). -/
def defaultTable : SettingsTable := ⟨defaultsList.toArray, rfl⟩

/-- The default key map's entry of a position (R120). -/
def defaultKey (p : Nat) : KeyEntry :=
  { code := p + 1, cls := .normal, chord := p == 0 || p == 5,
    routing := if p = 0 then .both else .report, action := if p = 0 then .wake else .none }

/-- The default key map (R120). -/
def defaultKeyMap : KeyMap := Vector.ofFn fun p => defaultKey p.val

/-- A setting's value in a table; 0 for a number outside it. -/
def settingAt (t : SettingsTable) (n : Nat) : Int := if h : n < 102 then t[n] else 0

/-- The settings of zone n in a table: settings 8 + 8n to 15 + 8n (R9). -/
def zoneSettingsAt (t : SettingsTable) (n : Nat) : ZoneSettings :=
  { setpoint := settingAt t (8 + 8 * n), release := settingAt t (9 + 8 * n),
    soak := (settingAt t (10 + 8 * n)).toNat, gain := (settingAt t (11 + 8 * n)).toNat,
    cls := (settingAt t (12 + 8 * n)).toNat, rating := (settingAt t (13 + 8 * n)).toNat,
    gating := settingAt t (14 + 8 * n) == 1, standbyHeat := settingAt t (15 + 8 * n) == 1 }

/-- The settings of fan n in a table: settings 40 + 8n to 47 + 8n (R49). -/
def fanSettingsAt (t : SettingsTable) (n : Nat) : FanSettings :=
  { mode := (settingAt t (40 + 8 * n)).toNat, fixedDuty := (settingAt t (41 + 8 * n)).toNat,
    minDuty := (settingAt t (42 + 8 * n)).toNat, stirDuty := (settingAt t (43 + 8 * n)).toNat,
    fullSpeed := (settingAt t (44 + 8 * n)).toNat, stallFraction := (settingAt t (45 + 8 * n)).toNat,
    cls := (settingAt t (46 + 8 * n)).toNat, rating := (settingAt t (47 + 8 * n)).toNat }

end Sys2Proof.Machine
end

