-- ==== Sys2Proof/Machine/State.lean ====
section
/-! DEFINITION. The state of the CS-410, block by block (spec/00_scope.md, Blocks), the reasons a step can stop, and the
state after reset. Timers hold the moment of the clock, in µs, at which they started. -/

namespace Sys2Proof.Machine

/-- A timer: stopped, or running since a moment of the clock. -/
abbrev Timer := Option Nat

/-- The exchange window as (byte address, byte) pairs: addresses rising, no zero byte listed; an unlisted byte reads 0,
since a supply reset zeroes the window (R198). -/
abbrev Memory := List Host.Cell

/-- A channel record (R2). The history is oldest first; history and filtered value mean nothing while `filled` is false. -/
structure Channel where
  h0 : Int
  h1 : Int
  h2 : Int
  h3 : Int
  filtered : Int
  status : ChannelStatus
  bad : Nat
  good : Nat
  filled : Bool
  deriving DecidableEq, Repr

/-- A zone record (R11) with the settings in use, which are latched at each control period (R10). -/
structure Zone where
  state : ZoneState
  credit : Nat
  request : Nat
  granted : Nat
  used : Option Int
  wasReady : Bool
  substitute : Bool
  noTemp : Bool
  timed : Bool
  heatSlow : Bool
  heatTime : Nat
  applied : ZoneSettings
  deriving DecidableEq, Repr

/-- ZC: four zones, the overheat dwell and source (R11, R24), Tmax and Tcrit in use (R10), whether the first control period
is still to come (R22), and the heater outputs with the start of their frame (R39). -/
structure ZoneController where
  zones : Vector Zone 4
  dwell : Nat
  source : OverheatSource
  sourceValue : Option Int
  tmax : Int
  tcrit : Int
  firstPeriod : Bool
  heaterOn : Vector Bool 4
  frameAt : Timer
  deriving DecidableEq, Repr

/-- A load record (R28). -/
structure Load where
  duty : Nat
  cls : Nat
  rating : Nat
  power : Nat
  grant : Nat
  granted : Nat
  deriving DecidableEq, Repr

/-- LA (R28). -/
structure Allocator where
  loads : Vector Load 6
  budget : Nat
  reservation : Nat
  applies : Bool
  available : Nat
  shortClass : Option Nat
  short0 : Bool
  shortfall : Nat
  total : Nat
  deriving DecidableEq, Repr

/-- A fan record (R50) with the settings copied for the period (R49). The grant is also the fan's PWM duty (R40). -/
structure Fan where
  request : Nat
  forcedTrip : Bool
  forcedOverheat : Bool
  forcedExhaust : Bool
  grant : Nat
  tach : TachCount
  capture : Capture
  reading : Option Nat
  speed : Nat
  stall : Nat
  good : Nat
  failed : Bool
  applied : FanSettings
  deriving DecidableEq, Repr

/-- FC (R50) with Tf0, Tf1 and the clog difference copied for the period (R49). -/
structure FanController where
  fans : Vector Fan 2
  clog : Nat
  filterFlag : Bool
  tf0 : Int
  tf1 : Int
  clogDiff : Int
  deriving DecidableEq, Repr

/-- PSQ (R66), with the level of its HOST_PG input. `hostReset` is true while HOST_RESET is asserted. -/
structure Sequencer where
  state : SeqState
  reason : HoldoffReason
  target : ShutdownTarget
  pgTimer : Timer
  settle : Timer
  pulse : Timer
  offTimer : Option Countdown
  delay : DelayTimer
  retry : Timer
  held : Option Action
  stamp : Word
  pgSeen : Bool
  deglitch : Timer
  mainEn : Bool
  hostReset : Bool
  hostPg : Bool
  deriving DecidableEq, Repr

/-- HBW (R94). -/
structure HeartbeatWatch where
  phase : WatchPhase
  source : ArmSource
  orderWindow : Nat
  orderGrace : Nat
  boot : Option Countdown
  watch : Option Countdown
  grace : Option Countdown
  lastValue : Word
  lastStamp : Option Word
  count : Word
  history : List HistoryRecord
  nextSeq : Nat
  pendingBoot : Nat
  lastAction : Option Action
  historyUpdates : Word
  deriving DecidableEq, Repr

/-- The dynamic part of a key table entry (R121); a state is true for DOWN. -/
structure Key where
  raw : Bool
  deb : Bool
  count : Nat
  mustUp : Bool
  hold : Timer
  repeatTimer : Timer
  repeatNo : Nat
  done : Bool
  transitions : Nat
  quiet : Timer
  mask : Mask
  deriving DecidableEq, Repr

/-- KPS (R122), with the moment the next scan is due (none before scanning begins) and the count of its reports (R149). The
service window is open while `window` runs. The last two fields are the model's own (log 43): whether an OPERATOR failure that KPS
sends stays on its way to HBW, and how many are on it. -/
structure Keypad where
  keys : Vector Key 48
  mode : ScanMode
  activity : Timer
  chatterWindow : Timer
  chord : ChordState
  chordTimer : Timer
  window : Timer
  nextScan : Timer
  reports : Word
  operatorLate : Bool
  operatorSent : Nat
  deriving DecidableEq, Repr

/-- IND (R152). `blink` is the moment the blink timer started, `frame` the last frame start, `nextSlot` the slot of the frame
to come next (4 when all have come), `group` the group driven now with its lit lamps. -/
structure Indicators where
  shown : Vector LampMode 16
  sources : Vector LampSource 16
  roles : RoleLamps
  plane : Word
  blink : Timer
  lampTest : Timer
  frame : Timer
  nextSlot : Nat
  group : Option (Fin 4)
  lit : BitVec 4
  deriving DecidableEq, Repr

/-- EXC (R165). The intake is BUSY exactly while an order is in hand. `busData` is what the last host read was answered. -/
structure Exchange where
  state : ExchangeState
  reason : DetachReason
  result : AttachResult
  attachCount : BitVec 16
  layout : Layout
  readIndex : BitVec 16
  inHand : Option OrderInHand
  lastOrder : Nat
  poll : Timer
  staging : Option Latch
  readLatch : Option Latch
  enable : BitVec 4
  busData : Option Half
  deriving DecidableEq, Repr

/-- RPU (R183). `pending` holds the notice causes: bit 0 DONE, 1 REPORT, 2 LAYOUT, 3 WARN (R179). -/
structure ReportUnit where
  holding : List Report
  discards : Nat
  created : Word
  writeIndex : BitVec 16
  view : Option QueueView
  pending : BitVec 4
  attn : Bool
  deriving DecidableEq, Repr

/-- SST (R191), with the moment its load or store began. -/
structure SettingsStore where
  table : SettingsTable
  keymap : KeyMap
  source : SettingsSource
  store : StoreState
  copy : Option StoreCopy
  since : Nat
  deriving DecidableEq, Repr

/-- The part. `clock` counts µs and is the model's own; `tickAt` is the moment of the last tick; `resetting` is the reset the
part is held in, `vddUp` the moment since which VDD has been above its threshold, none while it is not (R202), `resetCause` the
last reset cause of anchor word 9; `period` is the last control period's moment (R200); `pending` is the queue of commands,
first in first out. -/
structure State where
  clock : Nat
  tickAt : Nat
  uptime : Word
  resetting : Option ResetKind
  vddUp : Timer
  resetCause : ResetKind
  period : Timer
  sfe : Vector Channel 6
  zc : ZoneController
  la : Allocator
  fc : FanController
  psq : Sequencer
  hbw : HeartbeatWatch
  kps : Keypad
  ind : Indicators
  exc : Exchange
  rpu : ReportUnit
  sst : SettingsStore
  mem : Memory
  pending : List Instr
  deriving DecidableEq, Repr

/-- No command of the CS-410 faults: the spec gives every one of its commands an effect in every state, so the type has no
constructor (safe: no step can stop here). -/
inductive Fault where
  deriving DecidableEq, Repr

/-- Why a command is refused. -/
inductive Refusal where
  /-- Raised by an arm of `exec` whose command has no meaning in the model yet; safe, since nothing follows from it. No arm
  does so. -/
  | notModelled (mnemonic : String)
  deriving DecidableEq, Repr

/-! ## Reset values, block by block -/

/-- A channel after either reset (R2); history and filtered value are undefined there and hold 0 here (DESIGN CHOICE, unsafe,
log 14). -/
def Channel.reset : Channel :=
  { h0 := 0, h1 := 0, h2 := 0, h3 := 0, filtered := 0, status := .failed, bad := 0, good := 0, filled := false }

/-- Zone n after either reset (R11). The settings in use start as the defaults that the table holds then (DESIGN CHOICE,
unsafe, log 15). -/
def Zone.reset (n : Nat) : Zone :=
  { state := .idle, credit := 0, request := 0, granted := 0, used := none, wasReady := false, substitute := false,
    noTemp := false, timed := false, heatSlow := false, heatTime := 0, applied := zoneSettingsAt defaultTable n }

/-- ZC after either reset (R11, R201). -/
def ZoneController.reset : ZoneController :=
  { zones := #v[.reset 0, .reset 1, .reset 2, .reset 3], dwell := 0, source := .none, sourceValue := none,
    tmax := settingAt defaultTable 4, tcrit := settingAt defaultTable 5, firstPeriod := true,
    heaterOn := #v[false, false, false, false], frameAt := none }

/-- A load after either reset (R28). -/
def Load.reset : Load := { duty := 0, cls := 0, rating := 0, power := 0, grant := 0, granted := 0 }

/-- LA after either reset (R28). -/
def Allocator.reset : Allocator :=
  { loads := Vector.replicate 6 .reset, budget := 0, reservation := 0, applies := false, available := 0,
    shortClass := none, short0 := false, shortfall := 0, total := 0 }

/-- Fan n after either reset (R50). -/
def Fan.reset (n : Nat) : Fan :=
  { request := 0, forcedTrip := false, forcedOverheat := false, forcedExhaust := false, grant := 0, tach := .noEdge,
    capture := .none, reading := none, speed := 0, stall := 0, good := 0, failed := false,
    applied := fanSettingsAt defaultTable n }

/-- FC after either reset (R50). -/
def FanController.reset : FanController :=
  { fans := #v[.reset 0, .reset 1], clog := 0, filterFlag := false, tf0 := settingAt defaultTable 56,
    tf1 := settingAt defaultTable 57, clogDiff := settingAt defaultTable 58 }

/-- PSQ after either reset (R66); the HOST_PG input keeps the level it has. -/
def Sequencer.reset (hostPg : Bool) : Sequencer :=
  { state := .standby, reason := .none, target := .standby, pgTimer := none, settle := none, pulse := none,
    offTimer := none, delay := .stopped, retry := none, held := none, stamp := 0#32, pgSeen := false, deglitch := none,
    mainEn := false, hostReset := true, hostPg := hostPg }

/-- HBW after either reset (R94); what a pin reset keeps is read back at start-up (R119). -/
def HeartbeatWatch.reset : HeartbeatWatch :=
  { phase := .none, source := .settings, orderWindow := 30, orderGrace := 5, boot := none, watch := none, grace := none,
    lastValue := 0#32, lastStamp := none, count := 0#32, history := [], nextSeq := 1, pendingBoot := 0,
    lastAction := none, historyUpdates := 0#32 }

/-- A key's dynamic part after either reset (R121). -/
def Key.reset : Key :=
  { raw := false, deb := false, count := 0, mustUp := false, hold := none, repeatTimer := none, repeatNo := 0,
    done := false, transitions := 0, quiet := none, mask := .none }

/-- KPS after either reset (R121, R122). -/
def Keypad.reset : Keypad :=
  { keys := Vector.replicate 48 .reset, mode := .slow, activity := none, chatterWindow := none, chord := .idle,
    chordTimer := none, window := none, nextScan := none, reports := 0#32, operatorLate := false, operatorSent := 0 }

/-- IND after either reset (R152). -/
def Indicators.reset : Indicators :=
  { shown := Vector.replicate 16 .off, sources := Vector.replicate 16 .dark,
    roles := { power := 255, heat := 255, alarm := 255, filter := 255, service := 255, fan := 255 },
    plane := 0#32, blink := none, lampTest := none, frame := none, nextSlot := 0, group := none, lit := 0#4 }

/-- EXC after either reset (R165). -/
def Exchange.reset : Exchange :=
  { state := .detached, reason := .none, result := .none, attachCount := 0#16,
    layout := { orderBase := 0, orderMask := 0, reportBase := 0, reportMask := 0 }, readIndex := 0#16, inHand := none,
    lastOrder := 0, poll := none, staging := none, readLatch := none, enable := 0#4, busData := none }

/-- RPU after either reset (R183). -/
def ReportUnit.reset : ReportUnit :=
  { holding := [], discards := 0, created := 0#32, writeIndex := 0#16, view := none, pending := 0#4, attn := false }

/-- SST after either reset (R191). -/
def SettingsStore.reset : SettingsStore :=
  { table := defaultTable, keymap := defaultKeyMap, source := .defaults, store := .loading, copy := none, since := 0 }

/-- The machine right after a supply reset was taken (R198): every block at its reset values, the window zeroed, and the part
still held in the reset, VDD having just come above its threshold (log 41). RESET_END ends it and START_UP_LOAD starts the part
(log 2). The clock, the levels of HOST_PG and VDD and the command queue are the model's own (DESIGN CHOICE, unsafe, logs 15 and
41). -/
def State.reset : State :=
  { clock := 0, tickAt := 0, uptime := 0#32, resetting := some .supply, vddUp := some 0, resetCause := .supply, period := none,
    sfe := Vector.replicate 6 .reset, zc := .reset, la := .reset, fc := .reset, psq := .reset false, hbw := .reset,
    kps := .reset, ind := .reset, exc := .reset, rpu := .reset, sst := .reset, mem := [], pending := [] }

end Sys2Proof.Machine
end

