-- ==== Sys2Proof/Machine/Memory.lean ====
section
/-! DEFINITION. The exchange window's memory: reads and writes of bytes and words (R161), and its canonical form. -/

namespace Sys2Proof.Machine

/-- The byte at an address; 0 where none is listed. -/
def Memory.byte (m : Memory) (a : Nat) : Byte := (m.lookup a).getD 0#8

/-- The word at a word address, little-endian. -/
def Memory.word (m : Memory) (w : Nat) : Word :=
  m.byte (4 * w + 3) ++ m.byte (4 * w + 2) ++ m.byte (4 * w + 1) ++ m.byte (4 * w)

/-- The bytes of a word, the lowest first. -/
def wordBytes (v : Word) : List Byte :=
  [v.extractLsb' 0 8, v.extractLsb' 8 8, v.extractLsb' 16 8, v.extractLsb' 24 8]

/-- The cells of a run of bytes from an address up: zero bytes are not listed. -/
def Memory.cells (a : Nat) : List Byte → Memory
  | [] => []
  | b :: bs => if b = 0#8 then Memory.cells (a + 1) bs else (a, b) :: Memory.cells (a + 1) bs

/-- The memory with a run of bytes written from an address up. The window ends at byte 8191; a byte past it is nowhere. -/
def Memory.splice (m : Memory) (a : Nat) (bs : List Byte) : Memory :=
  m.filter (fun c => c.1 < a) ++ Memory.cells a (bs.take (Config.windowBytes - a))
    ++ m.filter (fun c => a + bs.length ≤ c.1)

/-- The memory with consecutive words written from a word address up. -/
def Memory.setWords (m : Memory) (w : Nat) (vs : List Word) : Memory := m.splice (4 * w) (vs.flatMap wordBytes)

/-- The memory with one word written. -/
def Memory.setWord (m : Memory) (w : Nat) (v : Word) : Memory := m.setWords w [v]

/-- `n` consecutive words from a word address up. -/
def Memory.wordsFrom (m : Memory) (w n : Nat) : List Word := (List.range n).map fun i => m.word (w + i)

/-- The canonical form: addresses strictly rising and inside the window, no zero byte listed. -/
def Memory.wf (m : Memory) : Bool :=
  decide (m.Pairwise fun c d => c.1 < d.1) && m.all fun c => decide (c.1 < Config.windowBytes) && decide (c.2 ≠ 0#8)

end Sys2Proof.Machine
end

