-- ==== Sys2Proof/Machine/Ops.lean ====
section
/-! DEFINITION. Operations that every block shares: the clock and its timers, settings, window words, the sets of sequencer
states, and the order of positions. -/

namespace Sys2Proof.Machine

/-- What a command answers. -/
abbrev Result := Host.Outcome State Fault Refusal

/-- The clock moved on by a number of microseconds. -/
def State.elapse (dt : Nat) (s : State) : State := { s with clock := s.clock + dt }

/-- A command taken `dt` µs after the one before it. While the part is held in a reset nothing but the clock moves (R198). -/
def State.live (dt : Nat) (f : State → State) (s : State) : Result :=
  .next (if (s.elapse dt).resetting.isSome then s.elapse dt else f (s.elapse dt))

/-- The command's effect where its condition holds; nothing where it does not. -/
def State.guarded (c : State → Bool) (f : State → State) (s : State) : State := if c s then f s else s

/-! ## Timers -/

/-- Whether a timer runs and has run for at least `us` µs. -/
def State.reached (s : State) (t : Timer) (us : Nat) : Bool :=
  match t with
  | none => false
  | some t0 => decide (t0 + us ≤ s.clock)

/-- Whether a countdown runs and has reached its length. -/
def State.ended (s : State) (c : Option Countdown) : Bool :=
  match c with
  | none => false
  | some c => decide (c.start + c.length ≤ s.clock)

/-- The µs of a number of seconds. -/
def secondsUs (n : Nat) : Nat := n * 1000000

/-- The µs of a number of milliseconds. -/
def millisUs (n : Nat) : Nat := n * 1000

/-- The µs of a number of minutes. -/
def minutesUs (n : Nat) : Nat := n * 60000000

/-- A countdown that starts now. -/
def State.countdown (s : State) (us : Nat) : Countdown := { start := s.clock, length := us }

/-- A time in whole ticks, rounded up (R167). -/
def ticksUp (us : Nat) : Nat := (us + (Config.tickUs - 1)) / Config.tickUs

/-- Ticks until a timer that started at `t0` has run for `us` µs; 0 when it has (R167). -/
def State.remaining (s : State) (t0 us : Nat) : Nat := ticksUp (t0 + us - s.clock)

/-- Ticks until a countdown ends; 0 when it does not run. -/
def State.countdownRemaining (s : State) (c : Option Countdown) : Nat :=
  match c with
  | none => 0
  | some c => s.remaining c.start c.length

/-! ## Settings and window words -/

/-- The value of a setting as it stands in SST's table. -/
def State.setting (s : State) (n : Nat) : Int := settingAt s.sst.table n

/-- The value of a setting whose range is not negative. -/
def State.settingNat (s : State) (n : Nat) : Nat := (s.setting n).toNat

/-- A word of the window. -/
def State.word (s : State) (w : Nat) : Word := s.mem.word w

/-- The window with consecutive words written. -/
def State.setWords (w : Nat) (vs : List Word) (s : State) : State := { s with mem := s.mem.setWords w vs }

/-- The window with one word written. -/
def State.setWord (w : Nat) (v : Word) (s : State) : State := { s with mem := s.mem.setWord w v }

/-- The committed order write index: word 38 mod 65536 (R172). -/
def State.orderWrite (s : State) : BitVec 16 := lowHalf (s.word 38)

/-- The committed report read index: word 39 mod 65536 (R184). -/
def State.reportRead (s : State) : BitVec 16 := lowHalf (s.word 39)

/-! ## Sets of sequencer states -/

/-- The rail-on set (R67). -/
def SeqState.railOn : SeqState → Bool
  | .powering | .booting | .running | .warned | .restarting | .shutdown => true
  | .standby | .heating | .cycling | .holdoff => false

/-- The states in which the computer runs under the watch: BOOTING, RUNNING, WARNED. -/
def SeqState.up : SeqState → Bool
  | .booting | .running | .warned => true
  | .standby | .heating | .powering | .restarting | .cycling | .shutdown | .holdoff => false

/-- The states in which standby-heat zones alone may heat, and the chatter quiet time is divided by ten (R12, R139). -/
def SeqState.parked : SeqState → Bool
  | .standby | .holdoff => true
  | .heating | .powering | .booting | .running | .warned | .restarting | .cycling | .shutdown => false

/-! ## Channels -/

/-- A channel whose value its readers use: GOOD or SUSPECT (R7, R8). -/
def Channel.usable (c : Channel) : Bool := decide (c.status ≠ .failed)

/-- The filtered value as readers see it: none while FAILED or unfilled (R7). -/
def Channel.value (c : Channel) : Option Int := if c.usable && c.filled then some c.filtered else none

/-- The intake channel A. -/
def State.intakeA (s : State) : Channel := s.sfe[4]

/-- The exhaust channel E. -/
def State.exhaustE (s : State) : Channel := s.sfe[5]

/-! ## Positions -/

/-- An effect on each of the 48 positions, in ascending order. -/
def State.eachPosition (f : Position → State → State) (s : State) : State :=
  (List.finRange 48).foldl (fun s p => f p s) s

/-- Whether the intake is BUSY: an order is in hand (R165, R172, R174). -/
def Exchange.busy (e : Exchange) : Bool := e.inHand.isSome

end Sys2Proof.Machine
end

