-- ==== Sys2Proof/Machine/Flags.lean ====
section
/-! DEFINITION. The notice causes and ATTN (R164, R188, R189), and PSQ's notice clear (R78). -/

namespace Sys2Proof.Machine

/-- The bit of DONE (R179). -/
def noticeDone : BitVec 4 := 1#4

/-- The bit of REPORT. -/
def noticeReport : BitVec 4 := 2#4

/-- The bit of LAYOUT. -/
def noticeLayout : BitVec 4 := 4#4

/-- The bit of WARN. -/
def noticeWarn : BitVec 4 := 8#4

/-- ATTN for given NOTICE and NOTICE ENABLE: some cause is both pending and enabled (R189). -/
def attnOf (pending enable : BitVec 4) : Bool := decide (pending &&& enable ≠ 0#4)

/-- NOTICE replaced, ATTN following (R189). -/
def State.setPending (n : BitVec 4) (s : State) : State :=
  { s with rpu := { s.rpu with pending := n, attn := attnOf n s.exc.enable } }

/-- NOTICE ENABLE replaced, ATTN following (R164, R189). -/
def State.setEnable (e : BitVec 4) (s : State) : State :=
  { s with exc := { s.exc with enable := e }, rpu := { s.rpu with attn := attnOf s.rpu.pending e } }

/-- A cause raised in any state: LAYOUT (R188). -/
def State.raise (bit : BitVec 4) (s : State) : State := s.setPending (s.rpu.pending ||| bit)

/-- A cause raised while ATTACHED, not acted on while DETACHED: DONE, REPORT, WARN (R188). -/
def State.raiseAttached (bit : BitVec 4) (s : State) : State :=
  if s.exc.state = .attached then s.raise bit else s

/-- PSQ's notice clear (R78 step 2): NOTICE and NOTICE ENABLE become 0 and ATTN is released. -/
def State.noticeClear (s : State) : State := (s.setPending 0#4).setEnable 0#4

/-- What a host read of a register returns (R164); the table has no row for it. -/
def State.registerRead (s : State) (index : Fin 4) : Half :=
  match index with
  | 0 => Config.ident
  | 1 => 0#16
  | 2 => s.rpu.pending.setWidth 16
  | 3 => s.exc.enable.setWidth 16

end Sys2Proof.Machine
end

