-- ==== Sys2Proof/Machine/Reports.lean ====
section
/-! DEFINITION. The Report Unit: room in the report queue, the holding list, drains and OVERFLOW (R182 to R187). -/

namespace Sys2Proof.Machine

/-- Whether the report queue has room (R184): never while the view is detached. -/
def State.queueRoom (s : State) : Bool :=
  match s.rpu.view with
  | none => false
  | some q => decide ((s.rpu.writeIndex - s.reportRead).toNat < q.mask + 1)

/-- The word address of the slot of the report write index (R184 step 1). -/
def State.reportSlot (s : State) : Nat :=
  match s.rpu.view with
  | none => 0
  | some q => q.base + (s.rpu.writeIndex.toNat &&& q.mask) * 4

/-- A record written into the queue (R184): its words, the index, the REPORT cause. -/
def State.writeReport (r : Report) (s : State) : State :=
  let s1 := s.setWords s.reportSlot r.words
  State.raiseAttached noticeReport { s1 with rpu := { s1.rpu with writeIndex := s1.rpu.writeIndex + 1 } }

/-- Held reports written while there is room (R186); `held` is the list as it stands. -/
def State.drainHeld : List Report → State → State
  | [], s => { s with rpu := { s.rpu with holding := [] } }
  | r :: rest, s =>
    if s.queueRoom then State.drainHeld rest (s.writeReport r) else { s with rpu := { s.rpu with holding := r :: rest } }

/-- OVERFLOW created and written, the discard count returned to 0 (R186). -/
def State.writeOverflow (s : State) : State :=
  let n := s.rpu.created + 1
  let r : Report := { kind := .overflow, source := 0, detail := 0, value := s.rpu.discards, stamp := s.uptime, number := n }
  State.writeReport r { s with rpu := { s.rpu with created := n, discards := 0 } }

/-- A drain (R186): held reports, then OVERFLOW where the list is empty, reports were discarded and there is room. -/
def State.drain (s : State) : State :=
  let s1 := if s.rpu.view.isSome then State.drainHeld s.rpu.holding s else s
  if s1.rpu.holding.isEmpty && decide (0 < s1.rpu.discards) && s1.queueRoom then s1.writeOverflow else s1

/-- Whether a report's kind is one of KEY_DOWN to KEY_UNMASKED. -/
def ReportKind.isKey : ReportKind → Bool
  | .keyDown | .keyUp | .keyRepeat | .keyMasked | .keyUnmasked => true
  | .service | .zoneReady | .zoneSensor | .heatSlow | .zoneTrip | .fanFault | .filter | .budgetShort | .watchWarn | .boot
  | .settingsDefaulted | .overflow => false

/-- The list without the KEY_UP that closes a press of position `src`, where the next key report of that position is a
KEY_UP; none where it is another kind or there is none (R185 case 3). -/
def closePress (src : Nat) : List Report → Option (List Report)
  | [] => none
  | r :: rest =>
    if r.kind.isKey && r.source == src then (if r.kind = .keyUp then some rest else none)
    else (closePress src rest).map (r :: ·)

/-- The list without its oldest matched pair, none where it holds none (R185 case 3). -/
def dropPair : List Report → Option (List Report)
  | [] => none
  | r :: rest =>
    match (if r.kind = .keyDown then closePress r.source rest else none) with
    | some l => some l
    | none => (dropPair rest).map (r :: ·)

/-- The list without its oldest KEY_REPEAT, none where it holds none (R185 case 2). -/
def dropRepeat : List Report → Option (List Report)
  | [] => none
  | r :: rest => if r.kind = .keyRepeat then some rest else (dropRepeat rest).map (r :: ·)

/-- What the holding list becomes when a report joins it, and how many reports are discarded (R185). -/
def takeIn (held : List Report) (r : Report) : List Report × Nat :=
  if held.length < Config.holdingMax then (held ++ [r], 0)
  else if r.kind = .keyRepeat then (held, 1)
  else match dropRepeat held with
    | some l => (l ++ [r], 1)
    | none =>
      match dropPair held with
      | some l => (l ++ [r], 2)
      | none => (held, 1)

/-- A report joins the holding list (R184, R185). -/
def State.holdReport (r : Report) (s : State) : State :=
  let (l, n) := takeIn s.rpu.holding r
  { s with rpu := { s.rpu with holding := l, discards := min 65535 (s.rpu.discards + n) } }

/-- The report that a body becomes: numbered and stamped with the uptime (R182). -/
def State.numbered (s : State) (n : ReportBody) : Report :=
  { kind := n.kind, source := n.source, detail := n.detail, value := n.value, stamp := s.uptime, number := s.rpu.created + 1 }

/-- A report created (R182, R184): the drain that its creation triggers, its number, then the queue or the holding list. The
drain is taken before the report is numbered (DEDUCED, log 9). -/
def State.createReport (n : ReportBody) (s : State) : State :=
  let s1 := s.drain
  let r := s1.numbered n
  let s2 := { s1 with rpu := { s1.rpu with created := s1.rpu.created + 1 } }
  if s2.rpu.holding.isEmpty && s2.rpu.discards == 0 && s2.queueRoom then s2.writeReport r else s2.holdReport r

/-- Reports created in the order given. -/
def State.createReports (ns : List ReportBody) (s : State) : State := ns.foldl (fun s n => s.createReport n) s

end Sys2Proof.Machine
end

