-- ==== Sys2Proof/Machine/Watch.lean ====
section
/-! DEFINITION. HBW's own operations: the restart history and its region (R109 to R112), the count and the decision (R106,
R107), the watch's phases (R98 to R101), and the detach that PSQ and EXC ask for (R170). -/

namespace Sys2Proof.Machine

/-! ## Detach -/

/-- Leaving ATTACHED (R170): the state, the reason, the mark on an order in hand, RPU's view (R187). Taken while DETACHED it
sets the reason alone. -/
def State.detach (reason : DetachReason) (s : State) : State :=
  if s.exc.state = .attached then
    { s with
      exc := { s.exc with state := .detached, reason := reason, inHand := s.exc.inHand.map fun h => { h with discard := true } }
      rpu := { s.rpu with view := none } }
  else { s with exc := { s.exc with reason := reason } }

/-! ## The restart history -/

/-- The words of the history region (R112): eight slots of eight words, zeros after the newest record. -/
def historyWords (l : List HistoryRecord) : List Word :=
  let ws := (l.take Config.historyMax).flatMap HistoryRecord.words
  ws ++ List.replicate (64 - ws.length) 0#32

/-- The list changed: the region rewritten, the history update count raised by 1 (R110 step 4, R112). -/
def State.setHistory (l : List HistoryRecord) (s : State) : State :=
  State.setWords 192 (historyWords l)
    { s with hbw := { s.hbw with history := l, historyUpdates := s.hbw.historyUpdates + 1 } }

/-- The list without its oldest record of a kind other than AUTOMATIC, none where all are AUTOMATIC. -/
def dropOther : List HistoryRecord → Option (List HistoryRecord)
  | [] => none
  | r :: rest => if r.kind = .automatic then (dropOther rest).map (r :: ·) else some rest

/-- Room for one record (R110 step 1): a list of 8 loses its oldest record that is not AUTOMATIC, else its oldest. -/
def makeRoom (l : List HistoryRecord) : List HistoryRecord :=
  if l.length < Config.historyMax then l else (dropOther l).getD l.tail

/-- The sequence after a sequence (R110 step 2). -/
def sequenceAfter (n : Nat) : Nat := if n = 65535 then 1 else n + 1

/-- The kind of a cause (R105). -/
def Cause.kind : Cause → CauseKind
  | .bootTimeout | .watchExpired | .pgTimeout | .pgLost => .automatic
  | .hostWarm | .hostCold | .operator => .requested
  | .overheat => .protective
  | .pinReset => .external

/-- The age in ticks of a stamp: uptime less stamp mod 2³² (R106, R111). -/
def ageOf (uptime stamp : Word) : Nat := (uptime - stamp).toNat

/-- The restart window in ticks: setting 68 × 100 (R106). -/
def State.restartWindow (s : State) : Nat := s.settingNat 68 * 100

/-- n of R106: the AUTOMATIC records with their counted flag set whose stamp lies within the restart window. -/
def State.escalation (s : State) : Nat :=
  s.hbw.history.countP fun r =>
    decide (r.kind = .automatic) && r.counted && decide (ageOf s.uptime r.stamp < s.restartWindow)

/-- The action HBW takes on a cause (R106, R107). -/
def State.actionFor (c : Cause) (s : State) : Action :=
  match c with
  | .bootTimeout | .watchExpired =>
    if (s.escalation : Int) < s.setting 69 then .warm else if (s.escalation : Int) < s.setting 70 then .cold else .holdoff
  | .pgTimeout | .pgLost => if (s.escalation : Int) < s.setting 70 then .cold else .holdoff
  | .hostWarm | .operator => .warm
  | .hostCold | .pinReset => .cold
  | .overheat => .holdoff

/-- The heartbeat age of a record: ticks since the last heartbeat, 4294967295 for none (R109). -/
def State.heartbeatAge (s : State) : Word :=
  match s.hbw.lastStamp with
  | none => 0xFFFFFFFF#32
  | some t => s.uptime - t

/-- The record of a cause made now (R109), with the sequencer and exchange state found. -/
def State.newRecord (c : Cause) (a : Action) (seq : SeqState) (attached : Bool) (s : State) : HistoryRecord :=
  { sequence := s.hbw.nextSeq, cause := c, kind := c.kind, action := a, counted := decide (c.kind = .automatic),
    stamp := s.uptime, z0Temp := s.zc.zones[0].used, heartbeat := s.hbw.lastValue, heartbeatAge := s.heartbeatAge,
    lastOrder := s.exc.lastOrder, seqState := seq, attached := attached }

/-- A record made (R110) and, with it, the pending boot cause and the last action (R108 steps 1 and 2). -/
def State.recordFailure (r : HistoryRecord) (s : State) : State :=
  let s1 := s.setHistory (makeRoom s.hbw.history ++ [r])
  { s1 with hbw := { s1.hbw with
      nextSeq := sequenceAfter s.hbw.nextSeq, pendingBoot := r.sequence, lastAction := some r.action } }

/-- Every counted flag cleared: the service floor (R111). -/
def State.serviceFloor (s : State) : State :=
  s.setHistory (s.hbw.history.map fun r => { r with counted := false })

/-- Counted flags cleared by ageing (R111): the list is rewritten only where some flag is cleared. -/
def State.ageHistory (s : State) : State :=
  if s.hbw.history.any (fun r => r.counted && decide (s.restartWindow ≤ ageOf s.uptime r.stamp)) then
    s.setHistory (s.hbw.history.map fun r =>
      { r with counted := r.counted && decide (ageOf s.uptime r.stamp < s.restartWindow) })
  else s

/-! ## The watch -/

/-- Phase NONE, all three timers stopped (R98, R108 step 3). -/
def State.watchOff (s : State) : State :=
  { s with hbw := { s.hbw with phase := .none, boot := none, watch := none, grace := none } }

/-- The window in force in seconds (R100, R118). -/
def State.windowInForce (s : State) : Nat :=
  match s.hbw.source with
  | .settings => s.settingNat 66
  | .order => s.hbw.orderWindow

/-- The grace in force in seconds (R100, R118). -/
def State.graceInForce (s : State) : Nat :=
  match s.hbw.source with
  | .settings => s.settingNat 67
  | .order => s.hbw.orderGrace

/-- Phase WATCH with a fresh watch timer toward the window in force, the other timers stopped (R99 to R103). -/
def State.watchOn (s : State) : State :=
  { s with hbw := { s.hbw with
      phase := .watch, boot := none, grace := none, watch := some (s.countdown (secondsUs s.windowInForce)) } }

/-- HBW at PSQ's entry into a state (R98), BOOTING apart: RUNNING and WARNED change nothing. -/
def State.watchEntered (st : SeqState) (s : State) : State :=
  match st with
  | .running | .warned => s
  | .standby | .heating | .powering | .booting | .restarting | .cycling | .shutdown | .holdoff => s.watchOff

/-- HBW at BOOTING entry (R98, R99, R116): phase BOOT, source SETTINGS, the deadline copied, the BOOT report, the pending
boot cause returned to 0. `detail` is 0 from POWERING and 1 from RESTARTING. -/
def State.watchBooting (detail : Nat) (s : State) : State :=
  let s1 := { s with hbw := { s.hbw with
      phase := .boot, source := .settings, watch := none, grace := none,
      boot := some (s.countdown (secondsUs (s.settingNat 65))) } }
  let s2 := s1.createReport { kind := .boot, source := 0, detail := detail, value := s.hbw.pendingBoot }
  { s2 with hbw := { s2.hbw with pendingBoot := 0 } }

/-! ## The history read back after a pin reset -/

/-- The records of the region's slots, up to the first whose sequence field is 0 (R119 step 1). -/
def readHistory (m : Memory) : Nat → Nat → List HistoryRecord
  | 0, _ => []
  | n + 1, w =>
    if fieldOf 0 16 (m.word w) = 0 then []
    else HistoryRecord.ofWords (m.word w) (m.word (w + 1)) (m.word (w + 2)) (m.word (w + 3)) (m.word (w + 4))
      (m.word (w + 5)) :: readHistory m n (w + 8)

/-- HBW at start-up after a pin reset (R119): read back, next sequence, service floor, the PIN_RESET record. -/
def State.pinResetHistory (s : State) : State :=
  let l := readHistory s.mem Config.historyMax 192
  let next := match l.getLast? with
    | none => 1
    | some r => sequenceAfter r.sequence
  let s1 := State.serviceFloor { s with hbw := { s.hbw with history := l, nextSeq := next } }
  let r := s1.newRecord .pinReset .cold .standby false
  s1.recordFailure { r with z0Temp := none, lastOrder := 0 }

end Sys2Proof.Machine
end

