-- ==== Sys2Proof/Machine/Sequencer.lean ====
section
/-! DEFINITION. PSQ's transitions (R66 to R89): taking the computer down, the state entries, the decisions, the shutdown, the
overheat and the releases of HOLDOFF; and the failures that HBW answers with them (R105 to R108). -/

namespace Sys2Proof.Machine

/-- ZC at the main-off event, zone by zone (R23): a READY zone is re-placed by its last used temperature, a TRIPPED zone
forgets its readiness. Tr is the one in use at the last period (R10). -/
def Zone.mainOff (z : Zone) : Zone :=
  match z.state with
  | .ready =>
    { z with
      state := match z.used with
        | some t => if z.applied.release ≤ t then .soaking else .heating
        | none => .heating
      timed := false }
  | .tripped => { z with wasReady := false }
  | .idle | .heating | .soaking => z

/-- The main-off event (R23, R79). -/
def State.mainOff (s : State) : State :=
  { s with zc := { s.zc with zones := onEach Zone.mainOff s.zc.zones, dwell := 0 } }

/-- Taking the computer down (R78): detach, notice clear, HOST_RESET asserted, and, where power is removed, MAIN_EN off and
the main-off event. -/
def State.takeDown (removePower : Bool) (s : State) : State :=
  let s1 := (s.detach .hostRestart).noticeClear
  let s2 := { s1 with psq := { s1.psq with hostReset := true } }
  if removePower then State.mainOff { s2 with psq := { s2.psq with mainEn := false } } else s2

/-- The timers of the states, all stopped; the deglitch timer runs in every state. -/
def Sequencer.timersOff (p : Sequencer) : Sequencer :=
  { p with pgTimer := none, settle := none, pulse := none, offTimer := none, delay := .stopped, retry := none }

/-- A state entry: the state, its entry stamp, the timers of the state left stopped, HBW told (R74, R91, R98). -/
def State.enter (st : SeqState) (s : State) : State :=
  State.watchEntered st { s with psq := { s.psq.timersOff with state := st, stamp := s.uptime } }

/-- Entry into HEATING (R69, R70, R81, R87 to R89). -/
def State.enterHeating (s : State) : State :=
  State.enter .heating { s with psq := { s.psq with reason := .none } }

/-- Entry into STANDBY at start-up or at the end of a shutdown (R69, R83). -/
def State.enterStandby (s : State) : State :=
  State.enter .standby { s with psq := { s.psq with reason := .none } }

/-- Entry into POWERING (R72): MAIN_EN on, the power-good timer, and the settle where PG seen is asserted (R68). -/
def State.enterPowering (s : State) : State :=
  let s1 := s.enter .powering
  { s1 with psq := { s1.psq with
      mainEn := true, hostReset := true, pgTimer := some s.clock, settle := if s.psq.pgSeen then some s.clock else none } }

/-- Entry into BOOTING (R74), from POWERING (detail 0) or RESTARTING (detail 1). -/
def State.enterBooting (detail : Nat) (s : State) : State :=
  State.watchBooting detail
    { s with psq := { s.psq.timersOff with state := .booting, stamp := s.uptime, mainEn := true, hostReset := false } }

/-- Entry into RESTARTING from BOOTING, RUNNING or WARNED (R78, R80). -/
def State.enterRestarting (s : State) : State :=
  let s1 := (s.takeDown false).enter .restarting
  { s1 with psq := { s1.psq with pulse := some s.clock } }

/-- Entry into CYCLING (R81): power removed, setting 71 copied into the off timer. -/
def State.enterCycling (s : State) : State :=
  let s1 := (s.takeDown true).enter .cycling
  { s1 with psq := { s1.psq with offTimer := some (s.countdown (secondsUs (s.settingNat 71))) } }

/-- Entry into HOLDOFF (R86): power removed, the reason, the retry timer for ESCALATION. -/
def State.enterHoldoff (reason : HoldoffReason) (s : State) : State :=
  let s1 := (s.takeDown true).enter .holdoff
  { s1 with psq := { s1.psq with reason := reason, retry := if reason = .escalation then some s.clock else none } }

/-- Entry into SHUTDOWN with the delay waiting for the order's completion (R82). -/
def State.enterShutdown (seconds : Nat) (s : State) : State :=
  let s1 := s.enter .shutdown
  { s1 with psq := { s1.psq with target := .standby, delay := .waiting seconds } }

/-- The end of SHUTDOWN's delay (R83). -/
def State.endShutdown (s : State) : State :=
  match s.psq.target with
  | .standby => (s.takeDown true).enterStandby
  | .holdoffOverheat => s.enterHoldoff .overheat

/-! ## Decisions -/

/-- A decision carried out by the table of R77. -/
def State.carryOut (a : Action) (s : State) : State :=
  match s.psq.state with
  | .booting | .running | .warned =>
    match a with
    | .warm => s.enterRestarting
    | .cold => s.enterCycling
    | .holdoff => s.enterHoldoff .escalation
  | .powering =>
    match a with
    | .warm | .cold => s.enterCycling
    | .holdoff => s.enterHoldoff .escalation
  | .restarting =>
    match a with
    | .warm => { s with psq := { s.psq with pulse := some s.clock } }
    | .cold => s.enterCycling
    | .holdoff => s.enterHoldoff .escalation
  | .standby | .heating | .cycling | .shutdown | .holdoff => s

/-- The held decision, if there is one, carried out and forgotten (R77). -/
def State.carryOutHeld (s : State) : State :=
  match s.psq.held with
  | none => s
  | some a => State.carryOut a { s with psq := { s.psq with held := none } }

/-- The states in which HBW takes an AUTOMATIC or REQUESTED failure (R105). -/
def SeqState.takesFailure : SeqState → Bool
  | .powering | .booting | .running | .warned | .restarting => true
  | .standby | .heating | .cycling | .shutdown | .holdoff => false

/-- Whether a decision on a cause is held until its order completes (R77, R108 step 4). -/
def Cause.held : Cause → Bool
  | .hostWarm | .hostCold => true
  | .bootTimeout | .watchExpired | .pgTimeout | .pgLost | .operator | .overheat | .pinReset => false

/-- HBW's part of a failure (R108 steps 1 to 3): the record with the action decided, the watch stopped. -/
def State.decided (c : Cause) (s : State) : State :=
  (s.recordFailure (s.newRecord c (s.actionFor c) s.psq.state (decide (s.exc.state = .attached)))).watchOff

/-- PSQ's part of a decision that is not held (R77): a decision held before it is carried out first. -/
def State.carryOutNow (a : Action) (s : State) : State := s.carryOutHeld.carryOut a

/-- An AUTOMATIC or REQUESTED failure reaches HBW (R105 to R108): discarded outside the states that take it, else recorded,
the watch stopped, and the decision held or carried out, a decision held before it first (R77). -/
def State.fail (c : Cause) (s : State) : State :=
  if s.psq.state.takesFailure then
    let s1 := s.decided c
    if c.held then { s1 with psq := { s1.psq with held := some (s.actionFor c) } } else s1.carryOutNow (s.actionFor c)
  else s

/-- Overheat complete reaches PSQ (R85): outside the rail-on set it is ignored; else the held decision is discarded, HBW
records the overheat with the states found before it (R109), and PSQ passes through SHUTDOWN into HOLDOFF (OVERHEAT). -/
def State.overheat (s : State) : State :=
  if s.psq.state.railOn then
    let s1 := s.recordFailure (s.newRecord .overheat .holdoff s.psq.state (decide (s.exc.state = .attached)))
    let s2 := State.enter .shutdown { s1 with psq := { s1.psq with held := none } }
    State.endShutdown { s2 with psq := { s2.psq with target := .holdoffOverheat } }
  else s

/-! ## Requests of HBW and KPS -/

/-- HBW asks PSQ to enter RUNNING, or disarms (R75): acted on in BOOTING and WARNED; RUNNING stays as it is. -/
def State.toRunning (s : State) : State :=
  match s.psq.state with
  | .booting | .warned => s.enter .running
  | .standby | .heating | .powering | .running | .restarting | .cycling | .shutdown | .holdoff => s

/-- The disarm request (R75): acted on in WARNED. -/
def State.disarmToRunning (s : State) : State :=
  match s.psq.state with
  | .warned => s.enter .running
  | .standby | .heating | .powering | .booting | .running | .restarting | .cycling | .shutdown | .holdoff => s

/-- HBW asks PSQ to enter WARNED (R75): acted on in RUNNING. -/
def State.toWarned (s : State) : State :=
  match s.psq.state with
  | .running => s.enter .warned
  | .standby | .heating | .powering | .booting | .warned | .restarting | .cycling | .shutdown | .holdoff => s

/-- The WAKE action (R70). -/
def State.wake (s : State) : State := if s.psq.state = .standby then s.enterHeating else s

/-- The SERVICE event (R88): an escalation holdoff is released with the service floor. -/
def State.serviceRelease (s : State) : State :=
  if s.psq.state = .holdoff ∧ s.psq.reason = .escalation then s.enterHeating.serviceFloor else s

/-! ## Events of PSQ's own timers and of power good -/

/-- A change of PG seen (R68). -/
def State.pgChanged (level : Bool) (s : State) : State :=
  let s1 := { s with psq := { s.psq with pgSeen := level } }
  match s.psq.state with
  | .powering =>
    if level then
      if s.psq.settle.isSome then s1 else { s1 with psq := { s1.psq with settle := some s.clock } }
    else { s1 with psq := { s1.psq with settle := none } }
  | .booting | .running | .warned => if level then s1 else s1.fail .pgLost
  | .standby | .heating | .restarting | .cycling | .shutdown | .holdoff => s1

/-- The power-good timer's expiry (R73). -/
def State.pgTimeout (s : State) : State :=
  State.fail .pgTimeout { s with psq := { s.psq with pgTimer := none, settle := none } }

/-- The end of a reset pulse (R80). -/
def State.pulseEnd (s : State) : State :=
  if s.psq.pgSeen then s.enterBooting 1 else State.fail .pgLost { s with psq := { s.psq with pulse := none } }

/-- Whether the retry timer has expired under the setting in force (R89). -/
def State.retryDue (s : State) : Bool :=
  decide (s.psq.state = .holdoff) && decide (s.psq.reason = .escalation) && decide (0 < s.setting 72)
    && s.reached s.psq.retry (minutesUs (s.settingNat 72))

/-- The retry timer's expiry (R89), where it is due. -/
def State.retryExpiry (s : State) : State := s.guarded State.retryDue State.enterHeating

/-- Whether every zone whose gating flag is 1 is READY (R71). -/
def State.gatePasses (s : State) : Bool :=
  decide (∀ n : Fin 4, s.zc.zones[n].applied.gating = true → s.zc.zones[n].state = .ready)

/-- Whether an overheat holdoff is released by cooling (R87). -/
def State.cooled (s : State) : Bool :=
  match s.zc.sourceValue with
  | none => false
  | some v => decide (v ≤ s.zc.tmax - 160)

/-- PSQ's examination of a control period (R71, R85, R87): one for the state it finds (DEDUCED, log 12). `complete` is ZC's
signal of the period (R25). -/
def State.psqPeriod (complete : Bool) (s : State) : State :=
  if complete && s.psq.state.railOn then s.overheat
  else match s.psq.state with
    | .heating => if s.gatePasses then s.enterPowering else s
    | .holdoff => if s.psq.reason = .overheat ∧ s.cooled = true then s.enterHeating else s
    | .standby | .powering | .booting | .running | .warned | .restarting | .cycling | .shutdown => s

/-- Ticks until the running timer of the state expires (R92). -/
def State.psqRemaining (s : State) : Nat :=
  let timer (t : Timer) (us : Nat) : Nat := match t with
    | none => 0
    | some t0 => s.remaining t0 us
  match s.psq.state with
  | .powering => timer s.psq.pgTimer Config.powerGoodUs
  | .restarting => timer s.psq.pulse Config.pulseUs
  | .cycling => s.countdownRemaining s.psq.offTimer
  | .shutdown =>
    match s.psq.delay with
    | .stopped => 0
    | .waiting n => n * 100
    | .running c => s.countdownRemaining (some c)
  | .holdoff => if 0 < s.setting 72 then timer s.psq.retry (minutesUs (s.settingNat 72)) else 0
  | .standby | .heating | .booting | .running | .warned => 0

end Sys2Proof.Machine
end

