-- ==== Sys2Proof/Machine/Zones.lean ====
section
/-! DEFINITION. SFE and ZC: measurements and channel records (R1 to R7), the zones' steps of a control period (R8 to R23) and
the overheat dwell (R24, R25). -/

namespace Sys2Proof.Machine

/-! ## Sensor channels -/

/-- The filtered value of a history (R5); Lean's `/` on Int with a positive divisor rounds toward negative infinity. -/
def filteredOf (a b c d : Int) : Int := (a + b + c + d + 2) / 4

/-- A history filled with one measurement (R3): status GOOD, counts 0. -/
def Channel.fill (t : Int) (_c : Channel) : Channel :=
  { h0 := t, h1 := t, h2 := t, h3 := t, filtered := t, status := .good, bad := 0, good := 0, filled := true }

/-- A good measurement (R3), with the filtered value of a recovery that is reported. -/
def Channel.good' (t : Int) (c : Channel) : Channel × Option Int :=
  if !c.filled && decide (c.bad < 3) then (c.fill t, none)
  else if c.status = .failed then
    if 8 ≤ c.good + 1 then (c.fill t, some t) else ({ c with good := c.good + 1 }, none)
  else
    ({ c with h0 := c.h1, h1 := c.h2, h2 := c.h3, h3 := t, filtered := filteredOf c.h1 c.h2 c.h3 t, status := .good,
              bad := 0 }, none)

/-- A bad measurement (R4), and whether a fail is reported. -/
def Channel.bad' (c : Channel) : Channel × Bool :=
  let n := min 3 (c.bad + 1)
  let c1 := { c with bad := n, good := 0 }
  if c.filled then
    if c.status = .failed then (c1, false)
    else if n < 3 then ({ c1 with status := .suspect }, false)
    else ({ c1 with status := .failed }, true)
  else (c1, decide (c.bad < 3 ∧ n = 3))

/-- A measurement applied to channel `n` (R1), with its ZONE_SENSOR report (R6). -/
def Channel.measure (n : Nat) (m : Measurement) (c : Channel) : Channel × Option ReportBody :=
  let fail (kind : Int) : Channel × Option ReportBody :=
    (c.bad'.1, if c.bad'.2 then some { kind := .zoneSensor, source := n, detail := 1, value := kind } else none)
  match m with
  | .lowRail => fail 1
  | .highRail => fail 2
  | .code t =>
    ((c.good' (temperatureOf t)).1,
      (c.good' (temperatureOf t)).2.map fun v => { kind := .zoneSensor, source := n, detail := 0, value := v })

/-- SFE's step of a control period (R1, R6): all channels measured, their reports created in ascending channel number, an order
that R6 does not give (DESIGN CHOICE, log 42). -/
def State.measureAll (ms : Vector Measurement 6) (s : State) : State :=
  let rs := (List.finRange 6).filterMap fun n => (s.sfe[n].measure n.val ms[n]).2
  let sfe : Vector Channel 6 := Vector.ofFn fun n => (s.sfe[n].measure n.val ms[n]).1
  State.createReports rs { s with sfe := sfe }

/-! ## The steps of a zone -/

/-- A zone with the reports of its steps so far. -/
abbrev ZoneStep := Zone × List ReportBody

/-- A zone report (R26). -/
def zoneReport (kind : ReportKind) (n detail : Nat) (z : Zone) : ReportBody :=
  { kind := kind, source := n, detail := detail, value := temperatureOrNone z.used }

/-- The heat-time timer reset, and with it the heat-slow flag (R19, R20). -/
def Zone.heatReset (z : Zone) : Zone := { z with heatTime := 0, heatSlow := false }

/-- Heat permission (R12). -/
def Zone.permitted (st : SeqState) (z : Zone) : Bool := !st.parked || z.applied.standbyHeat

/-- Step 1, where the warm-start check succeeds (R22): credit at the soak target, READY. -/
def Zone.warmStart (n : Nat) (z : Zone) : ZoneStep :=
  let z1 := { z with credit := z.applied.soak, state := .ready, timed := false }.heatReset
  (z1, [zoneReport .zoneReady n 2 z1])

/-- Step 2: the used temperature and its two flags (R8), from the zone's own channel and the intake. -/
def Zone.choose (own intake : Channel) (z : Zone) : Zone :=
  match own.value, intake.value with
  | some t, _ => { z with used := some t, substitute := false, noTemp := false }
  | none, some a => { z with used := some (max (-2048) (a - 128)), substitute := true, noTemp := false }
  | none, none => { z with used := none, substitute := false, noTemp := true }

/-- The credit after a period at temperature t (R14). -/
def creditAfter (tr t : Int) (credit : Nat) : Nat :=
  if tr ≤ t then min 65535 (credit + (min (t - tr) 160).toNat) else credit - 2 * (min (tr - t) 160).toNat

/-- Step 3: the credit update (R14). -/
def Zone.creditStep (z : Zone) : Zone :=
  match z.used with
  | none => z
  | some t => { z with credit := creditAfter z.applied.release t z.credit }

/-- Step 4: the trip check (R15). A zone leaving TRIPPED without its readiness is left IDLE for the placement step. -/
def Zone.tripStep (tmax : Int) (permitted : Bool) (n : Nat) (z : Zone) : ZoneStep :=
  match z.used with
  | none => (z, [])
  | some t =>
    if z.state = .tripped then
      if t ≤ tmax - 80 then
        let z1 := { z with wasReady := false }
        let z2 := if permitted && z.wasReady then { z1 with state := .ready }.heatReset else { z1 with state := .idle }
        (z2, [zoneReport .zoneTrip n 0 z])
      else (z, [])
    else if tmax < t then
      ({ z with state := .tripped, wasReady := decide (z.state = .ready), timed := false }, [zoneReport .zoneTrip n 1 z])
    else (z, [])

/-- A zone placed READY by its credit (R16). -/
def Zone.soakDone (n : Nat) (z : Zone) : ZoneStep :=
  if z.state = .soaking ∧ z.applied.soak ≤ z.credit then
    let z1 := { z with state := .ready, timed := false }.heatReset
    (z1, [zoneReport .zoneReady n 0 z1])
  else (z, [])

/-- Step 5: placement (R16). -/
def Zone.placeStep (permitted : Bool) (n : Nat) (z : Zone) : ZoneStep :=
  if z.state = .tripped then (z, [])
  else if !permitted then ({ z with state := .idle, timed := false }.heatReset, [])
  else if z.state = .ready then (z, [])
  else
    match z.used with
    | some t => Zone.soakDone n { z with state := if z.applied.release ≤ t then .soaking else .heating }
    | none => ({ z with state := .heating }, [])

/-- Step 6: the heat-time timer, HEAT_SLOW and timed release (R19, R20, R21). `maxMinutes` is setting 3. -/
def Zone.heatStep (maxMinutes : Nat) (n : Nat) (z : Zone) : ZoneStep :=
  if z.state = .heating ∨ z.state = .soaking then
    let z1 := { z with heatTime := z.heatTime + 1 }
    if minutesUs maxMinutes ≤ z1.heatTime * Config.controlPeriodUs then
      match z1.used with
      | some _ => if z1.heatSlow then (z1, []) else ({ z1 with heatSlow := true }, [zoneReport .heatSlow n 0 z1])
      | none =>
        let z2 := { z1 with state := .ready, timed := true }.heatReset
        (z2, [zoneReport .zoneReady n 1 z2])
    else (z1, [])
  else (z, [])

/-- The request duty (R18). -/
def Zone.requestOf (z : Zone) : Nat :=
  if z.state = .idle ∨ z.state = .tripped then 0
  else match z.used with
    | none => 256
    | some t => if z.applied.setpoint ≤ t then 0 else min 256 ((z.applied.setpoint - t) * z.applied.gain / 16).toNat

/-- Step 7: the request (R18). -/
def Zone.requestStep (z : Zone) : Zone := { z with request := z.requestOf }

/-- What the steps of a zone read from outside it in a control period (R8, R12, R15, R19, R22). -/
structure ZoneInputs where
  own : Channel
  intake : Channel
  seq : SeqState
  tmax : Int
  maxMinutes : Nat
  warm : Bool
  settings : ZoneSettings
  deriving DecidableEq, Repr

/-- The seven steps of zone n (R13), with the reports in the order of the steps (R26). -/
def Zone.period (i : ZoneInputs) (n : Nat) (z : Zone) : ZoneStep :=
  let z0 := { z with applied := i.settings }
  let p := z0.permitted i.seq
  let (z1, r1) := if i.warm then z0.warmStart n else (z0, [])
  let z3 := (z1.choose i.own i.intake).creditStep
  let (z4, r4) := z3.tripStep i.tmax p n
  let (z5, r5) := z4.placeStep p n
  let (z6, r6) := z5.heatStep i.maxMinutes n
  (z6.requestStep, r1 ++ r4 ++ r5 ++ r6)

/-- The warm-start check (R22): the first control period after a reset, with A GOOD at or above setting 2. -/
def State.warmStartHolds (s : State) : Bool :=
  s.zc.firstPeriod && decide (s.intakeA.status = .good) && s.intakeA.filled && decide (s.setting 2 ≤ s.intakeA.filtered)

/-- What zone n reads in this period. Its settings, Tmax and Tcrit are taken from the table at the period (R10). -/
def State.zoneInputs (s : State) (n : Fin 4) : ZoneInputs :=
  { own := s.sfe[n.val], intake := s.intakeA, seq := s.psq.state, tmax := s.setting 4, maxMinutes := s.settingNat 3,
    warm := s.warmStartHolds, settings := zoneSettingsAt s.sst.table n.val }

/-- ZC's steps for its four zones (R13), the reports zone by zone. -/
def State.zonePeriod (s : State) : State :=
  let rs := (List.finRange 4).flatMap fun n => (s.zc.zones[n].period (s.zoneInputs n) n.val).2
  let zones : Vector Zone 4 := Vector.ofFn fun n => (s.zc.zones[n].period (s.zoneInputs n) n.val).1
  State.createReports rs
    { s with zc := { s.zc with zones := zones, tmax := s.setting 4, tcrit := s.setting 5, firstPeriod := false } }

/-! ## Overheat -/

/-- The overheat source and its value (R24). -/
def overheatSourceOf (ts0 e : Channel) : OverheatSource × Option Int :=
  match ts0.value, e.value with
  | some t, _ => (.ts0, some t)
  | none, some t => (.exhaust, some t)
  | none, none => (.none, none)

/-- The dwell count after a period (R24). -/
def dwellAfter (value : Option Int) (tcrit : Int) (railOn : Bool) (dwell : Nat) : Nat :=
  match value with
  | none => 0
  | some v => if tcrit < v ∧ railOn = true then min Config.dwellMax (dwell + 1) else 0

/-- The overheat dwell of a period (R24). -/
def State.overheatDwell (s : State) : State :=
  let (src, v) := overheatSourceOf s.sfe[0] s.exhaustE
  { s with zc := { s.zc with
      source := src, sourceValue := v, dwell := dwellAfter v s.zc.tcrit s.psq.state.railOn s.zc.dwell } }

/-- Whether overheat complete is signalled: the count has reached 40 at this period (R25). -/
def overheatComplete (before after : Nat) : Bool := decide (before < Config.dwellMax) && decide (Config.dwellMax ≤ after)

end Sys2Proof.Machine
end

