-- ==== Sys2Proof/Machine/Climate.lean ====
section
/-! DEFINITION. LA's allocation (R29 to R45) and FC's control period (R51 to R62), the tach (R55), and the heater frame
(R39). -/

namespace Sys2Proof.Machine

/-! ## The allocation -/

/-- What a load's owner hands LA for a period: request duty, class and rating (R31). -/
structure LoadRequest where
  duty : Nat
  cls : Nat
  rating : Nat
  deriving DecidableEq, Repr

/-- The six requests of a period: zones as L0 to L3, fans as L4 and L5 (R27, R64). -/
def State.loadRequests (s : State) : Vector LoadRequest 6 :=
  let zone (n : Fin 4) : LoadRequest :=
    { duty := s.zc.zones[n].request, cls := s.zc.zones[n].applied.cls, rating := s.zc.zones[n].applied.rating }
  let fan (n : Fin 2) : LoadRequest :=
    { duty := s.fc.fans[n].request, cls := s.fc.fans[n].applied.cls, rating := s.fc.fans[n].applied.rating }
  #v[zone 0, zone 1, zone 2, zone 3, fan 0, fan 1]

/-- Request power (R32): rating × duty / 256, rounded up. -/
def requestPower (rating duty : Nat) : Nat := (rating * duty + 255) / 256

/-- Power available (R33). -/
def availablePower (budget reservation : Nat) (applies : Bool) : Nat :=
  if applies then budget - reservation else budget

/-- The total request power of a class (R34). -/
def classTotal (q : Vector LoadRequest 6) (c : Nat) : Nat :=
  (q.toList.map fun l => if l.cls = c then requestPower l.rating l.duty else 0).sum

/-- How a class is served (R34, R35). -/
inductive ClassService where
  | skipped
  | starved
  | full
  | short (remaining total : Nat)
  deriving DecidableEq, Repr

/-- The class pass so far: the power remaining, and the short class once there is one (R34, R35). -/
structure PassState where
  remaining : Nat
  short : Option Nat
  deriving DecidableEq, Repr

/-- How the pass serves a class with a request total (R34). -/
def PassState.serve (p : PassState) (total : Nat) : ClassService :=
  if total = 0 then .skipped
  else if p.short.isSome then .starved
  else if total ≤ p.remaining then .full
  else .short p.remaining total

/-- The pass after a class (R34, R35). -/
def PassState.after (p : PassState) (c total : Nat) : PassState :=
  match p.serve total with
  | .skipped | .starved => p
  | .full => { p with remaining := p.remaining - total }
  | .short _ _ => { remaining := 0, short := some c }

/-- The pass before class c: after the classes below it, from the available power. -/
def passBefore (q : Vector LoadRequest 6) (available : Nat) : Nat → PassState
  | 0 => { remaining := available, short := none }
  | c + 1 => (passBefore q available c).after c (classTotal q c)

/-- The grant of a load in W (R34, R35). -/
def grantOf (q : Vector LoadRequest 6) (available : Nat) (l : LoadRequest) : Nat :=
  let p := requestPower l.rating l.duty
  match (passBefore q available l.cls).serve (classTotal q l.cls) with
  | .skipped | .starved => 0
  | .full => p
  | .short remaining total => p * remaining / total

/-- The granted duty of a load (R37). -/
def grantedDuty (l : LoadRequest) (grant : Nat) : Nat := min l.duty (grant * 256 / l.rating)

/-- The load record that an allocation leaves (R28, R32, R35, R37). -/
def loadAfter (q : Vector LoadRequest 6) (available : Nat) (l : LoadRequest) : Load :=
  let g := grantOf q available l
  { duty := l.duty, cls := l.cls, rating := l.rating, power := requestPower l.rating l.duty, grant := g,
    granted := grantedDuty l g }

/-- LA after an allocation on six requests, given the applied budget and reservation and whether the reservation applies
(R29 to R37, R41). -/
def Allocator.allocate (q : Vector LoadRequest 6) (budget reservation : Nat) (applies : Bool) (_la : Allocator) : Allocator :=
  let a := availablePower budget reservation applies
  let loads := onEach (loadAfter q a) q
  let shortClass := (passBefore q a 4).short
  let short0 := decide (shortClass = some 0)
  { loads := loads, budget := budget, reservation := reservation, applies := applies, available := a,
    shortClass := shortClass, short0 := short0, shortfall := if short0 then classTotal q 0 - a else 0,
    total := (loads.toList.map Load.grant).sum }

/-- The BUDGET_SHORT report of an allocation, where the flag starts or ends (R41, R42). -/
def budgetReport (before after : Allocator) : Option ReportBody :=
  if after.short0 && !before.short0 then
    some { kind := .budgetShort, source := 0, detail := 1, value := after.shortfall }
  else if before.short0 && !after.short0 then some { kind := .budgetShort, source := 0, detail := 0, value := 0 }
  else none

/-- The granted duties returned to their owners, and the outputs of the next heater frame and of the fans (R38 to R40). -/
def State.takeGrants (s : State) : State :=
  let zones : Vector Zone 4 := Vector.ofFn fun n => { s.zc.zones[n] with granted := s.la.loads[n.val].granted }
  let heaters : Vector Bool 4 := Vector.ofFn fun n => decide (0 < s.la.loads[n.val].granted)
  let fans : Vector Fan 2 := Vector.ofFn fun n => { s.fc.fans[n] with grant := s.la.loads[n.val + 4].granted }
  { s with
    zc := { s.zc with zones := zones, heaterOn := heaters, frameAt := some s.clock }
    fc := { s.fc with fans := fans } }

/-- A period's allocation (R31), settings 0 and 1 copied and PSQ's state read at its start (R29, R30). -/
def State.allocation (s : State) : State :=
  let la := s.la.allocate s.loadRequests (s.settingNat 0) (s.settingNat 1) s.psq.state.railOn
  let s1 := State.takeGrants { s with la := la }
  State.createReports (budgetReport s.la la).toList s1

/-- A heater's on time reached (R39): granted duty × 250 ms / 256 of its frame, for a duty between 1 and 255. -/
def State.heaterDue (n : Fin 4) (s : State) : Bool :=
  let d := s.zc.zones[n].granted
  match s.zc.frameAt with
  | none => false
  | some t => decide (1 ≤ d ∧ d ≤ 255 ∧ d * Config.controlPeriodUs ≤ (s.clock - t) * 256)

/-- The heater output off for the rest of the frame (R39). -/
def State.heaterOff (n : Fin 4) (s : State) : State :=
  { s with zc := { s.zc with heaterOn := s.zc.heaterOn.set n false } }

/-! ## Tach -/

/-- A falling tach edge (R55). A count that has passed 65535 µs is overrun, whether or not that was told. -/
def Fan.edge (now : Nat) (f : Fan) : Fan :=
  match f.tach with
  | .noEdge | .overrun => { f with tach := .running now }
  | .running t =>
    if now - t = 0 then f
    else if now - t ≤ Config.tachMax then { f with tach := .running now, capture := .unread (now - t) }
    else { f with tach := .running now }

/-- A running count that passes 65535 µs (R55). -/
def Fan.passOverrun (now : Nat) (f : Fan) : Fan :=
  match f.tach with
  | .running t => if Config.tachMax < now - t then { f with tach := .overrun } else f
  | .noEdge | .overrun => f

/-- One fan changed. -/
def State.setFan (n : Fin 2) (f : Fan) (s : State) : State := { s with fc := { s.fc with fans := s.fc.fans.set n f } }

/-! ## The fan's control period -/

/-- Speed from a reading (R57). -/
def speedOf : Option Nat → Nat
  | none => 0
  | some p => 30000000 / p

/-- Step 1: the reading and the speed (R56, R57). -/
def Fan.readStep (f : Fan) : Fan :=
  match f.capture with
  | .unread p => { f with capture := .read p, reading := some p, speed := speedOf (some p) }
  | .read _ | .none => { f with reading := none, speed := 0 }

/-- The stall threshold in rpm (R58). -/
def Fan.threshold (f : Fan) : Nat := f.applied.fullSpeed * f.grant / 256 * f.applied.stallFraction / 256

/-- Step 2: the stall test of fan n (R58, R59), with its FAN_FAULT report (R60). -/
def Fan.stallStep (n : Nat) (f : Fan) : Fan × Option ReportBody :=
  let report (d : Nat) : ReportBody := { kind := .fanFault, source := n, detail := d, value := f.speed }
  if f.failed then
    if f.grant < 64 then (f, none)
    else if f.threshold ≤ f.speed then
      if 8 ≤ f.good + 1 then ({ f with failed := false, stall := 0, good := 0 }, some (report 0))
      else ({ f with good := f.good + 1 }, none)
    else ({ f with good := 0 }, none)
  else if f.grant < 64 then ({ f with stall := 0 }, none)
  else if f.threshold ≤ f.speed then ({ f with stall := 0 }, none)
  else if 8 ≤ f.stall + 1 then ({ f with stall := 8, failed := true, good := 0 }, some (report 1))
  else ({ f with stall := f.stall + 1 }, none)

/-- The AUTO curve (R54), in its first two cases alone where Tf1 is not above Tf0. -/
def autoCurve (fmin : Nat) (tf0 tf1 e : Int) : Nat :=
  if e ≤ tf0 then fmin
  else if tf1 ≤ e ∨ tf1 ≤ tf0 then 256
  else fmin + ((e - tf0) * (256 - (fmin : Int)) / (tf1 - tf0)).toNat

/-- The request of a fan that is not forced (R53). A FAILED E forces the request, so `e` is its value here. -/
def Fan.modeRequest (railOn : Bool) (tf0 tf1 : Int) (e : Int) (f : Fan) : Nat :=
  match f.applied.mode with
  | 0 => 0
  | 1 => f.applied.fixedDuty
  | _ => if railOn then autoCurve f.applied.minDuty tf0 tf1 e else f.applied.stirDuty

/-- Step 4: the forced flags and the request (R52 to R54). -/
def Fan.requestStep (trip overheat railOn : Bool) (tf0 tf1 : Int) (e : Option Int) (f : Fan) : Fan :=
  let f1 := { f with forcedTrip := trip, forcedOverheat := overheat, forcedExhaust := e.isNone }
  match e with
  | none => { f1 with request := 256 }
  | some t => { f1 with request := if trip || overheat then 256 else f1.modeRequest railOn tf0 tf1 t }

/-- Whether a period's evidence raises the clog score (R61). -/
def clogRises (railOn : Bool) (fans : Vector Fan 2) (a e diff : Int) : Bool :=
  railOn && decide (192 ≤ fans[0].grant) && decide (192 ≤ fans[1].grant) && decide (diff ≤ e - a)

/-- Step 3: the clog score and the filter flag (R61, R62), with the FILTER report. -/
def FanController.clogStep (railOn : Bool) (a e : Option Int) (fc : FanController) : FanController × Option ReportBody :=
  match a, e with
  | some a, some e =>
    if fc.fans[0].failed || fc.fans[1].failed then (fc, none)
    else if clogRises railOn fc.fans a e fc.clogDiff then
      let n := min 1000 (fc.clog + 1)
      if n = 1000 ∧ fc.filterFlag = false then
        ({ fc with clog := n, filterFlag := true }, some { kind := .filter, source := 0, detail := 1, value := 1000 })
      else ({ fc with clog := n }, none)
    else ({ fc with clog := fc.clog - 1 }, none)
  | _, _ => (fc, none)

/-- FC's control period (R51): settings copied (R49), then the four steps. -/
def State.fanPeriod (s : State) : State :=
  let tripped := decide (∃ n : Fin 4, s.zc.zones[n].state = .tripped)
  let rail := s.psq.state.railOn
  let read : Vector Fan 2 := Vector.ofFn fun n => { s.fc.fans[n] with applied := fanSettingsAt s.sst.table n.val }.readStep
  let r2 := (List.finRange 2).filterMap fun n => (read[n].stallStep n.val).2
  let tested : Vector Fan 2 := Vector.ofFn fun n => (read[n].stallStep n.val).1
  let fc := { s.fc with fans := tested, tf0 := s.setting 56, tf1 := s.setting 57, clogDiff := s.setting 58 }
  let (fc3, r3) := fc.clogStep rail s.intakeA.value s.exhaustE.value
  let s3 := State.createReports (r2 ++ r3.toList) { s with fc := fc3 }
  let requested : Vector Fan 2 := onEach
    (Fan.requestStep tripped (decide (0 < s.zc.dwell)) rail fc3.tf0 fc3.tf1 s.exhaustE.value) fc3.fans
  { s3 with fc := { s3.fc with fans := requested } }

/-! ## The control period -/

/-- The control period (R13, R51, R31, R71, R85, R87, R111): SFE, ZC, FC, LA in turn, with PSQ's and HBW's checks before FC
or after LA (R30; log 11). -/
def State.controlPeriod (ms : Vector Measurement 6) (turn : PsqTurn) (s : State) : State :=
  let s1 := State.measureAll ms { s with period := some s.clock }
  let s2 := s1.zonePeriod.overheatDwell
  let complete := overheatComplete s.zc.dwell s2.zc.dwell
  let checks (s : State) : State := (s.psqPeriod complete).ageHistory
  match turn with
  | .beforeAllocation => (checks s2).fanPeriod.allocation
  | .afterAllocation => checks s2.fanPeriod.allocation

end Sys2Proof.Machine
end

