-- ==== Sys2Proof/Machine/Indicators.lean ====
section
/-! DEFINITION. IND's operations: the roles and their lamps, the frame start, the group slots and the lamp test (R150 to
R160). -/

namespace Sys2Proof.Machine

/-! ## Roles -/

/-- The setting that names a role's lamp. -/
def Role.setting : Role → Nat
  | .power => 96 | .heat => 97 | .alarm => 98 | .filter => 99 | .service => 100 | .fan => 101

/-- The roles in the order in which they claim a lamp (R154). -/
def rolesInOrder : List Role := [.power, .alarm, .fan, .filter, .service, .heat]

/-- The lamp that a role's setting names, 255 for none. -/
def State.named (s : State) (r : Role) : Nat := s.settingNat r.setting

/-- The role that claims a lamp (R154). -/
def claimant (named : Role → Nat) (lamp : Nat) : Option Role := rolesInOrder.find? fun r => named r == lamp

/-- The lamp on which a role is in force: its own, or 255 where it names none or has lost its lamp (R154). -/
def lampInForce (named : Role → Nat) (r : Role) : Nat :=
  if named r < 16 ∧ claimant named (named r) = some r then named r else 255

/-- The role lamps in force (R152, R154). -/
def rolesInForce (named : Role → Nat) : RoleLamps :=
  { power := lampInForce named .power, heat := lampInForce named .heat, alarm := lampInForce named .alarm,
    filter := lampInForce named .filter, service := lampInForce named .service, fan := lampInForce named .fan }

/-- POWER's pattern (R155). -/
def powerPattern : SeqState → LampMode
  | .standby | .holdoff => .off
  | .heating | .powering => .slow
  | .booting | .running | .warned => .on
  | .restarting | .cycling | .shutdown => .fast

/-- ALARM's pattern (R155). -/
def alarmPattern (st : SeqState) (short0 : Bool) : LampMode :=
  match st with
  | .holdoff => .fast
  | .warned => .slow
  | .standby | .heating | .powering | .booting | .running | .restarting | .cycling | .shutdown =>
    if short0 then .on else .off

/-- SERVICE's pattern (R156). -/
def servicePattern (windowOpen : Bool) (chord : ChordState) : LampMode :=
  if windowOpen then .on else if chord = .holding then .slow else .off

/-- A role's pattern from its neighbours' state as it stands (R153 step 3, R155, R156). -/
def State.pattern (s : State) : Role → LampMode
  | .power => powerPattern s.psq.state
  | .alarm => alarmPattern s.psq.state s.la.short0
  | .heat => if (List.finRange 4).any (fun n => decide (0 < s.zc.zones[n].granted)) then .on else .off
  | .filter => if s.fc.filterFlag then .on else .off
  | .service => servicePattern s.kps.window.isSome s.kps.chord
  | .fan => if s.fc.fans[0].failed || s.fc.fans[1].failed then .fast else .off

/-! ## The frame start -/

/-- A lamp's mode in a host plane (R157, R179). -/
def planeMode (plane : Word) (lamp : Nat) : LampMode := LampMode.ofCode (fieldOf (2 * lamp) 2 plane)

/-- A lamp's shown mode and source (R153 step 4): the lamp test, the role that claims it, the host plane while ATTACHED,
else dark. -/
def State.composeLamp (s : State) (lamp : Nat) : LampMode × LampSource :=
  if s.ind.lampTest.isSome then (.on, .test)
  else match claimant s.named lamp with
    | some r => (s.pattern r, .role)
    | none => if s.exc.state = .attached then (planeMode (s.word 41) lamp, .host) else (.off, .dark)

/-- A frame start (R153). The groups take their slots anew from group 0 (R150). -/
def State.frameStart (s : State) : State :=
  let shown : Vector LampMode 16 := Vector.ofFn fun l => (s.composeLamp l.val).1
  let sources : Vector LampSource 16 := Vector.ofFn fun l => (s.composeLamp l.val).2
  { s with ind := { s.ind with
      shown := shown, sources := sources, roles := rolesInForce s.named, plane := s.word 41, frame := some s.clock
      nextSlot := 0, group := none, lit := 0#4 } }

/-! ## The group slots -/

/-- The blink timer's count of milliseconds, 0 while stopped (R151). -/
def State.blinkMs (s : State) : Nat :=
  match s.ind.blink with
  | none => 0
  | some t => (s.clock - t) / 1000 % 1000

/-- Whether a lamp of a mode is lit at a blink count (R151). -/
def LampMode.litAt (m : LampMode) (ms : Nat) : Bool :=
  match m with
  | .off => false
  | .on => true
  | .slow => decide (ms < 500)
  | .fast => decide (ms % 250 < 125)

/-- Whether the next slot's moment in the frame has come (R150). -/
def State.slotDue (s : State) : Bool :=
  decide (s.ind.nextSlot < 4) && s.reached s.ind.frame (s.ind.nextSlot * Config.slotUs)

/-- The lit lamps of a group, lamp 4g + i in bit i (R150, R151). -/
def litLamps (shown : Vector LampMode 16) (g : Fin 4) (ms : Nat) : BitVec 4 :=
  let lit (i : Fin 4) : Nat := if (shown[4 * g.val + i.val]'(by omega)).litAt ms then 2 ^ i.val else 0
  BitVec.ofNat 4 (lit 0 + lit 1 + lit 2 + lit 3)

/-- A group's slot starts (R150). -/
def State.slotStart (s : State) : State :=
  let g : Fin 4 := Fin.ofNat 4 s.ind.nextSlot
  { s with ind := { s.ind with group := some g, lit := litLamps s.ind.shown g s.blinkMs, nextSlot := s.ind.nextSlot + 1 } }

/-! ## The lamp test -/

/-- The lamp-test end as the mirror shows it (R160, R167): the first tick at or after 2 s of the test, 0 when stopped. -/
def State.lampTestEnd (s : State) : Word :=
  match s.ind.lampTest with
  | none => 0#32
  | some t => s.uptime + BitVec.ofNat 32 (ticksUp (t + Config.lampTestUs - s.tickAt))

end Sys2Proof.Machine
end

