-- ==== Sys2Proof/Machine/Keypad.lean ====
section
/-! DEFINITION. KPS's operations: keys and their entries, masks, transitions, the chord, the service window, the timers'
expiries and the two scans (R120 to R149). -/

namespace Sys2Proof.Machine

/-! ## Keys and entries -/

/-- The dynamic part of a position. -/
def State.key (s : State) (p : Position) : Key := s.kps.keys[p]

/-- The settings part of a position. -/
def State.entry (s : State) (p : Position) : KeyEntry := s.sst.keymap[p]

/-- A position's dynamic part replaced. -/
def State.setKey (p : Position) (k : Key) (s : State) : State :=
  { s with kps := { s.kps with keys := s.kps.keys.set p k } }

/-- Whether a position is used (R120). -/
def KeyEntry.used (e : KeyEntry) : Bool := decide (e.code ≠ 0)

/-- Whether a key's events are reported to the host (R120). -/
def KeyEntry.reports (e : KeyEntry) : Bool := decide (e.routing ≠ .localOnly)

/-- Whether a key's local action is carried out (R120). -/
def KeyEntry.acts (e : KeyEntry) : Bool := decide (e.routing ≠ .report)

/-- Whether a position is a used chord member. -/
def State.member (s : State) (p : Position) : Bool := (s.entry p).used && (s.entry p).chord

/-- The chord's qualifying members: used, chord members, unmasked (R140). -/
def State.qualifies (s : State) (p : Position) : Bool := s.member p && decide ((s.key p).mask = .none)

/-- A report of KPS: created through RPU and counted (R132, R149). -/
def State.keyReport (n : ReportBody) (s : State) : State :=
  let s1 := s.createReport n
  { s1 with kps := { s1.kps with reports := s1.kps.reports + 1 } }

/-- A report of one key: its position and code (R132). -/
def State.reportKey (kind : ReportKind) (p : Position) (detail : Nat) (s : State) : State :=
  s.keyReport { kind := kind, source := p.val, detail := detail, value := (s.entry p).code }

/-! ## The chord -/

/-- The chord condition (R140): some member qualifies and every qualifying member is debounced DOWN. -/
def State.chordCondition (s : State) : Bool :=
  (List.finRange 48).any s.qualifies && (List.finRange 48).all fun p => !s.qualifies p || (s.key p).deb

/-- The chord's examination of its condition from IDLE (R140). -/
def State.chordFromIdle (s : State) : State :=
  if s.chordCondition then { s with kps := { s.kps with chord := .holding, chordTimer := some s.clock } }
  else { s with kps := { s.kps with chord := .idle, chordTimer := none } }

/-- The chord at a change of the qualifying set (R140): a hold ends and may start again; FIRED stays. -/
def State.chordSetChanged (s : State) : State :=
  match s.kps.chord with
  | .fired => s
  | .idle | .holding => s.chordFromIdle

/-- The release of a fired chord (R142): IDLE once no used chord member, masked or not, is debounced DOWN. -/
def State.chordRelease (s : State) : State :=
  if (List.finRange 48).any (fun p => s.member p && (s.key p).deb) then s
  else { s with kps := { s.kps with chord := .idle, chordTimer := none } }

/-- The chord at step 4 of an ACTIVE scan (R126, R140, R142). -/
def State.chordAtScan (s : State) : State :=
  match s.kps.chord with
  | .idle => s.chordFromIdle
  | .holding =>
    if (List.finRange 48).any (fun p => s.qualifies p && !(s.key p).deb) then
      { s with kps := { s.kps with chord := .idle, chordTimer := none } }
    else s
  | .fired => s.chordRelease

/-- The chord after a change at one position: the qualifying set changed where the position is a member. -/
def State.chordTouched (p : Position) (s : State) : State := if s.member p then s.chordSetChanged else s

/-! ## Masks, presses and local actions -/

/-- A key masked (R136): timers stopped, KEY_MASKED, out of the qualifying set. -/
def State.maskKey (m : Mask) (p : Position) (s : State) : State :=
  let s1 := s.setKey p { s.key p with mask := m, hold := none, repeatTimer := none }
  (s1.reportKey .keyMasked p (if m = .stuck then 1 else 2)).chordTouched p

/-- The lamp-test request to IND (R134, R159). -/
def State.lampTestRequest (s : State) : State := { s with ind := { s.ind with lampTest := some s.clock } }

/-- A WAKE or LAMP_TEST action of a key routed LOCAL or BOTH (R134); OPERATOR_RESTART waits for its hold (R135). -/
def State.localAction (p : Position) (s : State) : State :=
  if (s.entry p).acts then
    match (s.entry p).action with
    | .wake => s.wake
    | .lampTest => s.lampTestRequest
    | .none | .operatorRestart => s
  else s

/-- A press: hold timer at 0, repeat number 0, action-done clear, KEY_DOWN where routed, the local action (R130 step 3, R139).
`detail` is 0 for a press and 1 for a fresh press at unmask. -/
def State.press (detail : Nat) (p : Position) (s : State) : State :=
  let s1 := s.setKey p { s.key p with hold := some s.clock, repeatNo := 0, done := false }
  let s2 := if (s.entry p).reports then s1.reportKey .keyDown p detail else s1
  s2.localAction p

/-- A mask released (R136, R139, R147): the transitions count cleared, KEY_UNMASKED with the detail, and a fresh press where
`fresh` and the key is debounced DOWN. A key without a mask is left as it is (R144). -/
def State.unmaskKey (detail : Nat) (fresh : Bool) (p : Position) (s : State) : State :=
  if (s.key p).mask = .none then s
  else
    let s1 := s.setKey p { s.key p with mask := .none, transitions := 0 }
    let s2 := s1.reportKey .keyUnmasked p detail
    let s3 := if fresh && (s.key p).deb then s2.press 1 p else s2
    s3.chordTouched p

/-- The count that a transition leaves (R130, R131 step 1): saturating at 255. -/
def countUp (n : Nat) : Nat := min 255 (n + 1)

/-- Whether a count is above the chatter limit (R138). -/
def State.aboveChatter (s : State) (n : Nat) : Bool := decide (s.setting 84 < (n : Int))

/-- A used key's debounced change to DOWN (R130); the debounced state has been set. -/
def State.keyWentDown (p : Position) (s : State) : State :=
  let n := countUp (s.key p).transitions
  let s1 := s.setKey p { s.key p with transitions := n, quiet := some s.clock }
  match (s.key p).mask with
  | .none => if s.aboveChatter n then s1.maskKey .chatter p else s1.press 0 p
  | .stuck | .chatter => s1

/-- A used key's debounced change to UP (R131); the debounced state has been set. -/
def State.keyWentUp (p : Position) (s : State) : State :=
  let n := countUp (s.key p).transitions
  let s1 := s.setKey p { s.key p with transitions := n, quiet := some s.clock, hold := none, repeatTimer := none }
  match (s.key p).mask with
  | .stuck => s1.unmaskKey 0 false p
  | .none =>
    if s.aboveChatter n then s1.maskKey .chatter p
    else if (s.entry p).reports then s1.reportKey .keyUp p 0 else s1
  | .chatter => s1

/-! ## Timer expiries. Each acts only where its conditions hold, so that an expiry that comes late finds nothing to do. -/

/-- Whether a position is used, unmasked and of class REPEAT with its reports routed to the host (R133). -/
def State.repeats (s : State) (p : Position) : Bool :=
  (s.entry p).used && decide ((s.entry p).cls = .repeating) && (s.entry p).reports && decide ((s.key p).mask = .none)

/-- The repeat delay reached (R133): the first KEY_REPEAT of a press. -/
def State.repeatDelayDue (p : Position) (s : State) : Bool :=
  s.repeats p && decide ((s.key p).repeatNo = 0) && (s.key p).repeatTimer.isNone
    && s.reached (s.key p).hold (millisUs (s.settingNat 81))

/-- The first KEY_REPEAT (R133). -/
def State.repeatDelayExpiry (p : Position) (s : State) : State :=
  s.guarded (State.repeatDelayDue p) fun s =>
    (s.setKey p { s.key p with repeatNo := 1, repeatTimer := some s.clock }).reportKey .keyRepeat p 1

/-- The repeat interval reached (R133). -/
def State.repeatIntervalDue (p : Position) (s : State) : Bool :=
  s.repeats p && s.reached (s.key p).repeatTimer (millisUs (s.settingNat 82))

/-- A further KEY_REPEAT (R133): the number saturates at 255. -/
def State.repeatIntervalExpiry (p : Position) (s : State) : State :=
  s.guarded (State.repeatIntervalDue p) fun s =>
    let n := countUp (s.key p).repeatNo
    (s.setKey p { s.key p with repeatNo := n, repeatTimer := some s.clock }).reportKey .keyRepeat p n

/-- The stuck time reached by an unmasked key (R137). -/
def State.stuckDue (p : Position) (s : State) : Bool :=
  (s.entry p).used && decide ((s.key p).mask = .none) && s.reached (s.key p).hold (secondsUs (s.settingNat 83))

/-- The STUCK mask (R137). -/
def State.stuckExpiry (p : Position) (s : State) : State := s.guarded (State.stuckDue p) (State.maskKey .stuck p)

/-- The chatter quiet time in force: setting 85, a tenth of it in STANDBY and HOLDOFF (R139). -/
def State.quietUs (s : State) : Nat :=
  if s.psq.state.parked then secondsUs (s.settingNat 85) / 10 else secondsUs (s.settingNat 85)

/-- The chatter quiet time reached by a CHATTER key that is debounced UP (R139). -/
def State.quietDue (p : Position) (s : State) : Bool :=
  (s.entry p).used && decide ((s.key p).mask = .chatter) && !(s.key p).deb && s.reached (s.key p).quiet s.quietUs

/-- The quiet release (R139). -/
def State.quietExpiry (p : Position) (s : State) : State := s.guarded (State.quietDue p) (State.unmaskKey 1 false p)

/-- Whether the service window is open (R143). -/
def State.windowOpen (s : State) : Bool := s.kps.window.isSome

/-- The conditions of OPERATOR_RESTART (R135). -/
def State.operatorDue (p : Position) (s : State) : Bool :=
  (s.entry p).used && decide ((s.entry p).action = .operatorRestart) && (s.entry p).acts
    && decide ((s.key p).mask = .none) && s.reached (s.key p).hold (secondsUs (s.settingNat 86)) && s.windowOpen
    && s.psq.state.up && !(s.key p).done

/-- An OPERATOR failure sent to HBW (R115): it reaches HBW at once, or stays on its way while failures are delayed (log 43). -/
def State.sendOperator (s : State) : State :=
  if s.kps.operatorLate then { s with kps := { s.kps with operatorSent := s.kps.operatorSent + 1 } } else s.fail .operator

/-- The OPERATOR failure, once a press (R135, R115). -/
def State.operatorExpiry (p : Position) (s : State) : State :=
  s.guarded (State.operatorDue p) fun s => (s.setKey p { s.key p with done := true }).sendOperator

/-- OPERATOR failures delayed on their way to HBW, from when KPS scans (log 43). -/
def State.operatorDelayed (s : State) : State :=
  s.guarded (fun s => s.kps.nextScan.isSome) fun s => { s with kps := { s.kps with operatorLate := true } }

/-- The arrival of an OPERATOR failure at HBW, which takes or discards it by PSQ's state of then (R105, R115); after the last of
those on their way, none is delayed any more (log 43). -/
def State.operatorArrives (s : State) : State :=
  match s.kps.operatorSent with
  | 0 => { s with kps := { s.kps with operatorLate := false } }
  | n + 1 => State.fail .operator { s with kps := { s.kps with operatorSent := n, operatorLate := decide (n ≠ 0) } }

/-- OPERATOR_RESTART by what it stands for. -/
def State.operatorPart (part : OperatorPart) (p : Position) (s : State) : State :=
  match part with
  | .fire => s.operatorExpiry p
  | .delay => s.operatorDelayed
  | .arrive => s.operatorArrives

/-- The chord timer's expiry due (R140, R141). -/
def State.chordDue (s : State) : Bool :=
  decide (s.kps.chord = .holding) && s.reached s.kps.chordTimer (secondsUs (s.settingNat 86))

/-- The chord's fire (R141), and the operator restarts that the opened window lets happen (R135): taken after the five steps, in
ascending position, a second one only where the first has left PSQ in a state that takes it (DESIGN CHOICE, logs 35 and 36). -/
def State.chordFired (s : State) : State :=
  let s1 := { s with kps := { s.kps with chord := .fired, chordTimer := none } }
  let s2 := s1.keyReport
    { kind := .service, source := 0, detail := boolCode s.windowOpen, value := s.setting 87 }
  let s3 := { s2 with kps := { s2.kps with window := some s.clock } }
  let s4 := s3.eachPosition fun p s => if (s.key p).mask = .chatter then s.unmaskKey 3 true p else s
  s4.serviceRelease.eachPosition State.operatorExpiry

/-- The chord's fire, where it is due. -/
def State.chordExpiry (s : State) : State := s.guarded State.chordDue State.chordFired

/-- The service window's time reached (R143). -/
def State.windowDue (s : State) : Bool := s.reached s.kps.window (secondsUs (s.settingNat 87))

/-- The service window's close (R143). -/
def State.windowExpiry (s : State) : State :=
  s.guarded State.windowDue fun s => { s with kps := { s.kps with window := none } }

/-- What KPS does at a change of PSQ's state (R139, R135): quiet releases at an entry into STANDBY or HOLDOFF, operator
restarts at an entry into BOOTING, RUNNING or WARNED from outside them, as at the chord's fire (DESIGN CHOICE, log 35). -/
def State.keypadFollows (old : SeqState) (s : State) : State :=
  let s1 := if s.psq.state.parked && decide (s.psq.state ≠ old) then s.eachPosition State.quietExpiry else s
  if s1.psq.state.up && !old.up then s1.eachPosition State.operatorExpiry else s1

/-! ## Scans -/

/-- Bit p of a scan's reading: true where position p reads DOWN. -/
def rawAt (raw : BitVec 48) (p : Position) : Bool := raw.getLsbD p.val

/-- The position at a column and row (R120). -/
def positionAt (c : Fin 8) (r : Fin 6) : Position := ⟨c.val * 6 + r.val, by omega⟩

/-- The column of a position. -/
def columnOf (p : Position) : Fin 8 := ⟨p.val / 6, by omega⟩

/-- The row of a position. -/
def rowOf (p : Position) : Fin 6 := ⟨p.val % 6, by omega⟩

/-- Whether a used position's stored raw state is DOWN. -/
def State.rawDown (s : State) (p : Position) : Bool := (s.entry p).used && (s.key p).raw

/-- Whether a position is a corner of a rectangle of used positions that are all raw DOWN (R128). -/
def State.inRectangle (s : State) (p : Position) : Bool :=
  s.rawDown p && (List.finRange 8).any fun c => decide (c ≠ columnOf p) && s.rawDown (positionAt c (rowOf p)) &&
    (List.finRange 6).any fun r => decide (r ≠ rowOf p) && s.rawDown (positionAt (columnOf p) r) && s.rawDown (positionAt c r)

/-- Whether the ghost rule holds a position's debounce at this scan (R128): a corner that is debounced UP. -/
def State.ghost (s : State) (p : Position) : Bool := s.inRectangle p && !(s.key p).deb

/-- Step 1 of an ACTIVE scan: the raw state of every used position stored (R126). -/
def State.storeRaw (raw : BitVec 48) (s : State) : State :=
  let keys : Vector Key 48 := Vector.ofFn fun p => if (s.entry p).used then { s.key p with raw := rawAt raw p } else s.key p
  { s with kps := { s.kps with keys := keys } }

/-- The must-see-UP flag and the debounce of a key at a scan (R127, R129), and whether the debounced state changed. -/
def Key.debounce (k : Key) (held : Bool) (limit : Nat) : Key × Bool :=
  let k1 := { k with mustUp := k.mustUp && k.raw }
  if k1.raw = k1.deb then ({ k1 with count := 0 }, false)
  else if held || k1.mustUp then ({ k1 with count := 0 }, false)
  else if limit ≤ k1.count + 1 then ({ k1 with deb := k1.raw, count := 0 }, true)
  else ({ k1 with count := k1.count + 1 }, false)

/-- Step 3 of an ACTIVE scan at one position (R126), given the ghost rule's holds of step 2. -/
def State.scanPosition (held : Position → Bool) (p : Position) (s : State) : State :=
  if (s.entry p).used then
    let (k, changed) := (s.key p).debounce (held p) (s.settingNat 80)
    let s1 := s.setKey p k
    if changed then (if k.deb then s1.keyWentDown p else s1.keyWentUp p) else s1
  else s

/-- Whether any used position is raw DOWN or debounced DOWN (R124). -/
def State.anyDown (s : State) : Bool :=
  (List.finRange 48).any fun p => (s.entry p).used && ((s.key p).raw || (s.key p).deb)

/-- The mode chosen at the end of a scan, and the moment of the next scan (R124). -/
def State.chooseMode (s : State) : State :=
  let active := s.psq.state.up || s.anyDown || s.kps.activity.isSome
  { s with kps := { s.kps with
      mode := if active then .active else .slow
      nextScan := some (s.clock + if active then Config.activeScanUs else Config.slowScanUs) } }

/-- An ACTIVE scan (R126). -/
def State.activeScan (raw : BitVec 48) (s : State) : State :=
  let s1 := s.storeRaw raw
  let s2 := s1.eachPosition (State.scanPosition s1.ghost)
  let s3 := s2.chordAtScan
  let s4 := if s3.anyDown then { s3 with kps := { s3.kps with activity := some s.clock } } else s3
  s4.chooseMode

/-- A SLOW scan (R125): a key wake where a used position reads DOWN, with the first ACTIVE scan at once; else the mode is
chosen by R124 (log 18). -/
def State.slowScan (raw : BitVec 48) (s : State) : State :=
  if (List.finRange 48).any (fun p => (s.entry p).used && rawAt raw p) then
    { s with kps := { s.kps with activity := some s.clock, mode := .active, nextScan := some s.clock } }
  else s.chooseMode

/-- Whether a scan of a mode is due (R124). -/
def State.scanDue (m : ScanMode) (s : State) : Bool := decide (s.kps.mode = m) && s.reached s.kps.nextScan 0

/-! ## Replacement of entries -/

/-- A key's dynamic part after its entry is replaced (R146). -/
def Key.replaced (k : Key) : Key :=
  { k with
    mask := .none, count := 0, transitions := 0, hold := none, repeatTimer := none, repeatNo := 0, done := false, quiet := none
    deb := false, mustUp := k.mustUp || k.deb }

/-- The entries of the named positions replaced, the dynamic parts reset, the chord examined anew (R146). The chord is examined
where a member before or after is among the positions (log 20). -/
def State.replaceEntries (named : Position → Bool) (map : KeyMap) (s : State) : State :=
  let entries : KeyMap := Vector.ofFn fun p => if named p then map[p] else s.entry p
  let keys : Vector Key 48 := Vector.ofFn fun p => if named p then (s.key p).replaced else s.key p
  let s1 := { s with sst := { s.sst with keymap := entries }, kps := { s.kps with keys := keys } }
  if s.kps.chord = .fired then s1.chordRelease
  else if (List.finRange 48).any (fun p => named p && (s.member p || s1.member p)) then s1.chordSetChanged else s1

end Sys2Proof.Machine
end

