-- ==== Sys2Proof/Machine/Mirror.lean ====
section
/-! DEFINITION. What EXC shows the host: the anchor part fields (R166, R179) and the three mirror sections (R167, R181), and
the moments at which a step rewrites them (R27, R92, R118, R149, R160; log 8). -/

namespace Sys2Proof.Machine

/-! ## The anchor -/

/-- The value that anchor word w shows (R179). -/
def State.anchorValue (s : State) (w : Nat) : Word :=
  match w with
  | 0 => Config.identityWord
  | 1 => 1#32
  | 2 => BitVec.ofNat 32 s.exc.state.code
  | 3 => BitVec.ofNat 32 s.exc.reason.code
  | 4 => BitVec.ofNat 32 s.exc.result.code
  | 5 => s.exc.attachCount.setWidth 32
  | 6 => s.exc.readIndex.setWidth 32
  | 7 => s.rpu.writeIndex.setWidth 32
  | 8 => s.uptime
  | 9 => BitVec.ofNat 32 s.resetCause.code
  | 10 => BitVec.ofNat 32 s.sst.source.code
  | 11 => BitVec.ofNat 32 s.rpu.holding.length
  | 12 => BitVec.ofNat 32 s.rpu.discards
  | 13 => BitVec.ofNat 32 s.exc.lastOrder
  | _ => 0#32

/-- The anchor words that EXC writes at each change of their value (R166); word 10 is written at the load's completion. -/
def anchorWatched : List Nat := [2, 3, 4, 5, 6, 7, 8, 9, 11, 12, 13]

/-- The anchor words whose value a step has changed, written (R166). -/
def State.writeAnchor (old s : State) : State :=
  anchorWatched.foldl (fun t w => if old.anchorValue w = s.anchorValue w then t else t.setWord w (s.anchorValue w)) s

/-! ## The climate section -/

/-- A channel's word (R7, R181): the filtered value, none while unfilled, and the status. -/
def Channel.mirrorWord (c : Channel) : Word :=
  fieldAt 0 16 (signedWord (if c.filled then c.filtered else noTemperature)).toNat ||| fieldAt 16 2 c.status.code

/-- A zone's five words (R181). -/
def Zone.mirrorWords (z : Zone) : List Word :=
  [fieldAt 0 3 z.state.code ||| fieldAt 8 1 (boolCode z.substitute) ||| fieldAt 9 1 (boolCode z.noTemp)
      ||| fieldAt 10 1 (boolCode z.timed) ||| fieldAt 11 1 (boolCode z.heatSlow) ||| fieldAt 12 1 (boolCode z.wasReady),
    signedWord (temperatureOrNone z.used), BitVec.ofNat 32 z.credit,
    fieldAt 0 9 z.request ||| fieldAt 16 9 z.granted, BitVec.ofNat 32 z.heatTime]

/-- LA's three words (R46, R181). -/
def Allocator.mirrorWords (a : Allocator) : List Word :=
  [fieldAt 0 16 a.budget ||| fieldAt 16 16 a.reservation,
    fieldAt 0 16 a.available ||| fieldAt 16 16 a.total,
    fieldAt 0 1 (boolCode a.applies) ||| fieldAt 1 1 (boolCode a.short0) ||| fieldAt 8 8 (a.shortClass.getD 255)
      ||| fieldAt 16 16 a.shortfall]

/-- A load's word (R181). -/
def Load.mirrorWord (l : Load) : Word := fieldAt 0 16 l.power ||| fieldAt 16 16 l.grant

/-- A fan's three words (R65, R181). The row's "bits 5 to 3" name the forced flags in the order in which it lists them: trip 5,
overheat 4, exhaust 3 (DEDUCED, log 32). -/
def Fan.mirrorWords (f : Fan) : List Word :=
  [fieldAt 0 2 f.applied.mode ||| fieldAt 2 1 (boolCode f.failed) ||| fieldAt 3 1 (boolCode f.forcedExhaust)
      ||| fieldAt 4 1 (boolCode f.forcedOverheat) ||| fieldAt 5 1 (boolCode f.forcedTrip) ||| fieldAt 8 4 f.stall
      ||| fieldAt 12 4 f.good ||| fieldAt 16 9 f.request,
    fieldAt 0 9 f.grant ||| fieldAt 16 16 (f.reading.getD 0), BitVec.ofNat 32 f.speed]

/-- The climate section's body, words 65 to 126 (R181). -/
def State.climateBody (s : State) : List Word :=
  (s.sfe.toList.map Channel.mirrorWord)
  ++ [fieldAt 0 8 s.zc.dwell ||| fieldAt 8 8 s.zc.source.code]
  ++ s.zc.zones.toList.flatMap Zone.mirrorWords
  ++ s.la.mirrorWords
  ++ s.la.loads.toList.map Load.mirrorWord
  ++ s.fc.fans.toList.flatMap Fan.mirrorWords
  ++ [fieldAt 0 16 s.fc.clog ||| fieldAt 16 1 (boolCode s.fc.filterFlag)]
  ++ List.replicate 19 0#32

/-! ## The supervision section -/

/-- Ticks until the running timer of HBW expires (R118). -/
def State.watchRemaining (s : State) : Nat :=
  match s.hbw.phase with
  | .boot => s.countdownRemaining s.hbw.boot
  | .watch => s.countdownRemaining s.hbw.watch
  | .grace => s.countdownRemaining s.hbw.grace
  | .none | .disarmed => 0

/-- The code of the last action, 0 for none (R118). -/
def lastActionCode : Option Action → Nat
  | none => 0
  | some a => a.code

/-- The supervision section's body, words 129 to 158 (R92, R118, R181). -/
def State.supervisionBody (s : State) : List Word :=
  [fieldAt 0 4 s.psq.state.code ||| fieldAt 4 2 s.psq.reason.code ||| fieldAt 6 1 s.psq.target.code
      ||| fieldAt 8 1 (boolCode s.psq.mainEn) ||| fieldAt 9 1 (boolCode s.psq.hostReset)
      ||| fieldAt 10 1 (boolCode s.psq.pgSeen),
    s.psq.stamp, BitVec.ofNat 32 s.psqRemaining,
    fieldAt 0 3 s.hbw.phase.code ||| fieldAt 3 1 s.hbw.source.code ||| fieldAt 8 4 s.escalation
      ||| fieldAt 12 4 s.hbw.history.length ||| fieldAt 16 2 (lastActionCode s.hbw.lastAction),
    fieldAt 0 16 s.windowInForce ||| fieldAt 16 16 s.graceInForce,
    BitVec.ofNat 32 s.watchRemaining, s.hbw.lastValue, s.hbw.lastStamp.getD 0xFFFFFFFF#32, s.hbw.count,
    fieldAt 0 16 s.hbw.nextSeq ||| fieldAt 16 16 s.hbw.pendingBoot, s.hbw.historyUpdates]
  ++ List.replicate 19 0#32

/-! ## The panel section -/

/-- Two words of one flag per position, position p in bit p of the first or bit p − 32 of the second (R181). -/
def flagWords (f : Position → Bool) : List Word :=
  let v : Nat := (List.finRange 48).foldl (fun n p => if f p then n + 2 ^ p.val else n) 0
  [BitVec.ofNat 32 v, BitVec.ofNat 32 (v / 2 ^ 32)]

/-- A word of a two-bit code per lamp (R181). -/
def lampWord (f : Fin 16 → Nat) : Word :=
  BitVec.ofNat 32 ((List.finRange 16).foldl (fun n l => n + (f l % 4) * 4 ^ l.val) 0)

/-- KPS's flags, words 161 to 168 (R149). -/
def State.keyWords (s : State) : List Word :=
  flagWords (fun p => (s.key p).deb) ++ flagWords (fun p => decide ((s.key p).mask = .stuck))
  ++ flagWords (fun p => decide ((s.key p).mask = .chatter)) ++ flagWords (fun p => (s.key p).mustUp)

/-- Ticks until the service window closes, 0 when closed (R149). -/
def State.windowRemaining (s : State) : Nat :=
  match s.kps.window with
  | none => 0
  | some t => s.remaining t (secondsUs (s.settingNat 87))

/-- IND's fields, words 172 to 178 (R160). -/
def State.lampWords (s : State) : List Word :=
  [lampWord (fun l => s.ind.shown[l].code), lampWord (fun l => s.ind.sources[l].code),
    fieldAt 0 8 s.ind.roles.power ||| fieldAt 8 8 s.ind.roles.heat ||| fieldAt 16 8 s.ind.roles.alarm
      ||| fieldAt 24 8 s.ind.roles.filter,
    fieldAt 0 8 s.ind.roles.service ||| fieldAt 8 8 s.ind.roles.fan,
    s.ind.plane, BitVec.ofNat 32 (boolCode s.ind.lampTest.isSome), s.lampTestEnd]

/-- The panel section's body, words 161 to 190 (R149, R160, R181). -/
def State.panelBody (s : State) : List Word :=
  s.keyWords
  ++ [fieldAt 0 1 s.kps.mode.code ||| fieldAt 8 2 s.kps.chord.code ||| fieldAt 16 1 (boolCode s.kps.window.isSome),
    BitVec.ofNat 32 s.windowRemaining, s.kps.reports]
  ++ s.lampWords ++ List.replicate 12 0#32

/-! ## Rewrites -/

/-- A section's first word, which holds its update count (R181). -/
def Section.first : Section → Nat
  | .climate => 64
  | .supervision => 128
  | .panel => 160

/-- A section's length in words, the two count words among them (R181). -/
def Section.length : Section → Nat
  | .climate => 64
  | .supervision => 32
  | .panel => 32

/-- A section's body with its owners' present values. -/
def State.sectionBody (s : State) : Section → List Word
  | .climate => s.climateBody
  | .supervision => s.supervisionBody
  | .panel => s.panelBody

/-- A section written whole with an update count in its first and last words (R167). -/
def State.writeSection (sec : Section) (count : Word) (s : State) : State :=
  s.setWords sec.first ([count] ++ s.sectionBody sec ++ [count])

/-- A section's rewrite (R167): the count rises by 1. -/
def State.rewrite (sec : Section) (s : State) : State := s.writeSection sec (s.word sec.first + 1)

/-- Whether a step changed what makes PSQ or HBW rewrite the supervision section (R92, R118). A change of PG seen before the
start-up load is over counts as any other (DESIGN CHOICE, log 33). -/
def State.supervisionChanged (old s : State) : Bool :=
  decide (old.psq.state ≠ s.psq.state) || decide (old.psq.reason ≠ s.psq.reason) || decide (old.psq.target ≠ s.psq.target)
    || decide (old.psq.stamp ≠ s.psq.stamp) || decide (old.psq.pgSeen ≠ s.psq.pgSeen)
    || decide (old.psq.mainEn ≠ s.psq.mainEn) || decide (old.psq.hostReset ≠ s.psq.hostReset)
    || decide (old.hbw ≠ s.hbw) || decide (old.windowInForce ≠ s.windowInForce)
    || decide (old.graceInForce ≠ s.graceInForce)

/-- Whether a step changed what makes KPS rewrite the panel section (R149). -/
def State.panelChanged (old s : State) : Bool :=
  decide (old.keyWords ≠ s.keyWords) || decide (old.kps.mode ≠ s.kps.mode) || decide (old.kps.chord ≠ s.kps.chord)
    || decide (old.kps.window ≠ s.kps.window)

/-- Whether IND's fields differ from those of the last rewrite (R160): words 172 to 178 as the window holds them. -/
def State.lampsChanged (s : State) : Bool := decide (s.mem.wordsFrom 172 7 ≠ s.lampWords)

/-- Whether the time until HBW's timer expires is another than word 134 shows (R118). -/
def State.watchRemainingChanged (s : State) : Bool := decide (s.word 134 ≠ BitVec.ofNat 32 s.watchRemaining)

/-- What a command asks to be rewritten whether or not a field changed: climate and supervision at a control period, panel at
a chatter window restart; what it asks to be compared with the window: the time until HBW's timer expires at a tick (log 40),
IND's fields at a frame start. -/
structure Rewrites where
  period : Bool := false
  chatter : Bool := false
  tick : Bool := false
  frame : Bool := false
  deriving DecidableEq, Repr

/-- The section's rewrite where its condition holds. -/
def State.rewriteIf (c : Bool) (sec : Section) (s : State) : State := if c then s.rewrite sec else s

/-- What a step shows the host (R166, R167): changed anchor words, then the sections to rewrite. -/
def State.publish (r : Rewrites) (old s : State) : State :=
  let s1 := State.writeAnchor old s
  let s2 := s1.rewriteIf r.period .climate
  let s3 := s2.rewriteIf (r.period || State.supervisionChanged old s || (r.tick && s.watchRemainingChanged)) .supervision
  s3.rewriteIf (r.chatter || State.panelChanged old s || (r.frame && s.lampsChanged)) .panel

/-- An effect as a step of its own: KPS follows PSQ's state, then the host is shown what changed. -/
def State.act (r : Rewrites) (f : State → State) (s : State) : State :=
  State.publish r s ((f s).keypadFollows s.psq.state)

/-- A command with an effect, in a part that is not held in a reset. -/
def State.command (dt : Nat) (r : Rewrites) (f : State → State) (s : State) : Result := s.live dt (State.act r f)

/-- A command whose effect and rewrites come only where a condition holds, as for an expiry of a timer. -/
def State.commandIf (dt : Nat) (r : Rewrites) (c : State → Bool) (f : State → State) (s : State) : Result :=
  s.live dt fun s => if c s then State.act r f s else s

end Sys2Proof.Machine
end

