-- ==== Sys2Proof/Machine/Settings.lean ====
section
/-! DEFINITION. SST's operations: the known settings and their ranges (R190, R192), writes and their immediate effects, the
EEPROM image, its load and its store (R191 to R199). -/

namespace Sys2Proof.Machine

/-! ## Numbers and ranges -/

/-- Whether SST knows a setting number (R190). -/
def isKnown (n : Nat) : Bool :=
  decide (n ≤ 5) || decide (8 ≤ n ∧ n ≤ 58) || decide (64 ≤ n ∧ n ≤ 72) || decide (80 ≤ n ∧ n ≤ 87)
    || decide (96 ≤ n ∧ n ≤ 101)

/-- The bounds of a zone setting at an offset, its partner bounds taken from a table (R9, R190). -/
def zoneBounds (t : SettingsTable) (n : Nat) : Int × Int :=
  match n % 8 with
  | 0 => (max (-640) (settingAt t (n + 1) + 16), 1280)
  | 1 => (-640, min 1280 (settingAt t (n - 1) - 16))
  | 2 => (0, 65535)
  | 3 => (1, 64)
  | 4 => (0, 3)
  | 5 => (1, 250)
  | _ => (0, 1)

/-- The bounds of a fan setting at an offset (R49, R190). -/
def fanBounds (n : Nat) : Int × Int :=
  match n % 8 with
  | 0 => (0, 2)
  | 1 | 2 | 3 => (0, 256)
  | 4 => (500, 20000)
  | 5 => (1, 255)
  | 6 => (0, 3)
  | _ => (1, 250)

/-- The bounds of a setting (R190), the partner's value taken from a table (R192). The role lamps have their own rule. -/
def boundsOf (t : SettingsTable) (n : Nat) : Int × Int :=
  if 8 ≤ n ∧ n < 40 then zoneBounds t n
  else if 40 ≤ n ∧ n < 56 then fanBounds n
  else match n with
    | 0 => (0, 1000)
    | 1 => (0, 500)
    | 2 => (-640, 640)
    | 3 => (1, 240)
    | 4 => (640, min 1760 (settingAt t 5 - 16))
    | 5 => (settingAt t 4 + 16, 1920)
    | 56 => (-640, min 1600 (settingAt t 57 - 16))
    | 57 => (settingAt t 56 + 16, 1760)
    | 58 => (16, 640)
    | 64 => (0, 1)
    | 65 => (10, 900)
    | 66 => (1, 600)
    | 67 => (0, 60)
    | 68 => (60, 86400)
    | 69 => (0, settingAt t 70)
    | 70 => (settingAt t 69, 8)
    | 71 => (2, 60)
    | 72 => (0, 1440)
    | 80 => (1, 15)
    | 81 => (100, 2000)
    | 82 => (20, 1000)
    | 83 => (10, 600)
    | 84 => (4, 100)
    | 85 => (10, 3600)
    | 86 => (1, 10)
    | 87 => (10, 600)
    | _ => (0, 0)

/-- Whether a setting is a role lamp (R192). -/
def isRoleLamp (n : Nat) : Bool := decide (96 ≤ n ∧ n ≤ 101)

/-- A value brought into its setting's range (R192). -/
def clampSetting (t : SettingsTable) (n : Nat) (v : Int) : Int :=
  if isRoleLamp n then (if v < 0 then 0 else if 15 < v then 255 else v)
  else if v < (boundsOf t n).1 then (boundsOf t n).1
  else if (boundsOf t n).2 < v then (boundsOf t n).2
  else v

/-- A setting placed in a table; a number outside the table changes nothing. -/
def placeSetting (n : Nat) (v : Int) (t : SettingsTable) : SettingsTable := if h : n < 102 then t.set n v h else t

/-- The table with one setting replaced. -/
def State.placeSetting (n : Nat) (v : Int) (s : State) : State :=
  { s with sst := { s.sst with table := Sys2Proof.Machine.placeSetting n v s.sst.table } }

/-! ## Immediate effects -/

/-- What a changed setting sets off at once: a time written below a running timer's elapsed time makes that timer expire when
the write is taken (R89, R123, R139, R143; log 31). Every other setting is read at its owner's next moment (R190). -/
def State.settingWritten (n : Nat) (s : State) : State :=
  match n with
  | 72 => s.retryExpiry
  | 81 => s.eachPosition State.repeatDelayExpiry
  | 82 => s.eachPosition State.repeatIntervalExpiry
  | 83 => s.eachPosition State.stuckExpiry
  | 85 => s.eachPosition State.quietExpiry
  | 86 => s.chordExpiry.eachPosition State.operatorExpiry
  | 87 => s.windowExpiry
  | _ => s

/-- The settings whose write can set something off at once. -/
def immediateSettings : List Nat := [72, 81, 82, 83, 85, 86, 87]

/-- The number of settings at other values than their defaults (R195). -/
def settingsOffDefault (t : SettingsTable) : Nat :=
  (List.range 102).countP fun n => decide (settingAt t n ≠ settingAt defaultTable n)

/-- The number of the named positions that are masked (R146, R195). -/
def State.maskedAmong (s : State) (named : Position → Bool) : Nat :=
  (List.finRange 48).countP fun p => named p && decide ((s.key p).mask ≠ .none)

/-! ## The image -/

/-- The 32-bit sum of words, carries beyond bit 31 dropped (R196). -/
def wordSum (ws : List Word) : Word := ws.foldl (· + ·) 0#32

/-- The words of an image before its sum word (R196). -/
def imageBody (c : StoreCopy) : List Word :=
  [Config.imageSignature, 1#32]
  ++ (List.range 102).map (fun n => if isKnown n then signedWord (settingAt c.table n) else 0#32)
  ++ c.keymap.toList.map KeyEntry.word

/-- The image of a copy: 153 words whose sum is 0 (R196). -/
def imageOf (c : StoreCopy) : List Word := imageBody c ++ [0#32 - wordSum (imageBody c)]

/-- The image's bytes, each word's lowest first (R196). -/
def imageBytes (ws : List Word) : List Byte := ws.flatMap wordBytes

/-- The writes of a store in their order, each an EEPROM byte address and its bytes (R196, R197): page 1 with word 0 as 0,
pages 2 to 20, then the signature. A view of the port: the EEPROM itself is outside the part (log 21). -/
def storeWrites (c : StoreCopy) : List (Nat × List Byte) :=
  let bytes := imageBytes (0#32 :: (imageOf c).tail)
  (List.range 20).map (fun k => (32 * k, (bytes.drop (32 * k)).take 32)) ++ [(0, wordBytes Config.imageSignature)]

/-! ## The load -/

/-- A table in which the second member of each pair lets the first take its widest range (R199). -/
def widestTable : SettingsTable :=
  [(5, 1920), (9, -640), (17, -640), (25, -640), (33, -640), (57, 1760), (70, 8)].foldl
    (fun t m => placeSetting m.1 m.2 t) defaultTable

/-- The settings of an image, taken in ascending number, each clamped against its partner as taken so far (R199). -/
def loadSettings (ws : List Word) : SettingsTable :=
  (List.range 102).foldl
    (fun t n => if isKnown n then placeSetting n (clampSetting t n (ws.getD (2 + n) 0#32).toInt) t else t) widestTable

/-- The key map of an image; a malformed word is replaced by its position's default entry (R199). -/
def loadKeys (ws : List Word) : KeyMap :=
  Vector.ofFn fun p => (KeyEntry.ofWord (ws.getD (104 + p.val) 0#32)).getD (defaultKey p.val)

/-- The checks of a load, in their order (R199): the SETTINGS_DEFAULTED detail of the first that fails. A reading that is not
153 words long is no answer (log 21). -/
def loadFailure : ReadBack → Option Nat
  | .noAnswer _ => some 1
  | .words ws =>
    if ws.length ≠ Config.imageWords then some 1
    else if ws.getD 0 0#32 ≠ Config.imageSignature then some 2
    else if ws.getD 1 0#32 ≠ 1#32 then some 3
    else if wordSum ws ≠ 0#32 then some 4
    else none

/-- The words that a reading brought. -/
def readWords : ReadBack → List Word
  | .noAnswer _ => []
  | .words ws => ws

/-- SST at the end of LOADING (R199): the table, the key map and the settings source, and IDLE. -/
def State.takeImage (r : ReadBack) (s : State) : State :=
  match loadFailure r with
  | none =>
    { s with sst := { s.sst with
        table := loadSettings (readWords r), keymap := loadKeys (readWords r), source := .stored, store := .idle } }
  | some d =>
    State.createReport { kind := .settingsDefaulted, source := 0, detail := d, value := 0 }
      { s with sst := { s.sst with source := .defaults, store := .idle } }

/-- PSQ's start-up state (R69). -/
def State.startSequencer (s : State) : State := if s.setting 64 = 1 then s.enterHeating else s.enterStandby

/-- HBW at start-up (R119): after a pin reset the kept history and the PIN_RESET record. -/
def State.startHistory (s : State) : State := if s.resetCause = .pin then s.pinResetHistory else s

/-- KPS, EXC's poll, IND's blink timer and the control period start at the completion of the load (R200). -/
def State.startTimers (s : State) : State :=
  { s with
    exc := { s.exc with poll := some s.clock }
    kps := { s.kps with nextScan := some s.clock, chatterWindow := some s.clock }
    ind := { s.ind with blink := some s.clock }
    period := some s.clock }

/-- The completion of the start-up load (R199, R200), each block in turn (log 28). -/
def State.startUp (r : ReadBack) (s : State) : State :=
  let s1 := s.takeImage r
  let s2 := s1.setWord 10 (s1.anchorValue 10)
  s2.startHistory.startSequencer.startTimers.frameStart

/-! ## The store -/

/-- STORE_SETTINGS carried out (R197): the copy is taken and STORING entered. -/
def State.beginStore (s : State) : State :=
  { s with sst := { s.sst with
      store := .storing, copy := some { table := s.sst.table, keymap := s.sst.keymap }, since := s.clock } }

/-- The index of the first word read back that differs from the image, none when all are equal (R197). -/
def firstDifference (image read : List Word) : Option Nat :=
  (List.range image.length).find? fun i => decide (image[i]? ≠ read[i]?)

/-- A store that failed at a word (R197). -/
def storeFailed (word detail : Nat) : OrderResult :=
  { outcome := .failed, value := BitVec.ofNat 32 word, detail := BitVec.ofNat 32 detail }

/-- What a store's read-back comes to (R197). -/
def storeResult (c : StoreCopy) : ReadBack → OrderResult
  | .noAnswer i => storeFailed i.val 1
  | .words ws =>
    match firstDifference (imageOf c) ws with
    | none => { outcome := .done, value := 153#32, detail := 0#32 }
    | some i => storeFailed i 2

/-- The end of a store (R197): SST is IDLE, the order's result is known, the copy is given up (DESIGN CHOICE, log 39). -/
def State.endStore (r : OrderResult) (s : State) : State :=
  { s with
    sst := { s.sst with store := .idle, copy := none }
    exc := { s.exc with inHand := s.exc.inHand.map fun h => { h with result := some r } } }

/-- The copy of the store under way; the present table where there is none. -/
def State.storeCopy (s : State) : StoreCopy := s.sst.copy.getD { table := s.sst.table, keymap := s.sst.keymap }

/-- Whether the load or store has run for a time since it began (R197, R199); the moments of a store's single writes are not
held, so a missing acknowledge is counted from its beginning too (DESIGN CHOICE, log 38). -/
def State.storeFor (us : Nat) (s : State) : Bool := decide (s.sst.since + us ≤ s.clock)

end Sys2Proof.Machine
end

