-- ==== Sys2Proof/Machine/Operands.lean ====
section
/-! DEFINITION. The operand forms: the order record's fields and the checks on them (R145, R172, R173, R177, R180), and the
layout operands of an attach (R168). -/

namespace Sys2Proof.Machine

/-! ## The order record -/

/-- The order code (R180). -/
def OrderRecord.code (r : OrderRecord) : Nat := fieldOf 0 8 r.w0

/-- The host tag (R180). -/
def OrderRecord.tag (r : OrderRecord) : Nat := fieldOf 8 8 r.w0

/-- The VOID flag (R180). -/
def OrderRecord.void (r : OrderRecord) : Bool := fieldOf 16 1 r.w0 == 1

/-- The five operand words (R180). -/
def OrderRecord.operands (r : OrderRecord) : List Word := [r.w1, r.w2, r.w3, r.w4, r.w5]

/-- The record of eight words of the window (R172). -/
def State.recordAt (s : State) (w : Nat) : OrderRecord :=
  { w0 := s.word w, w1 := s.word (w + 1), w2 := s.word (w + 2), w3 := s.word (w + 3), w4 := s.word (w + 4),
    w5 := s.word (w + 5), w6 := s.word (w + 6), w7 := s.word (w + 7) }

/-- Word 0 of an entry whose order has completed (R174): code, tag and VOID flag as taken, bits 17 to 23 zero, the outcome. -/
def OrderRecord.answer (r : OrderRecord) (o : OrderOutcome) : Word :=
  fieldAt 0 8 r.code ||| fieldAt 8 8 r.tag ||| fieldAt 16 1 (boolCode r.void) ||| fieldAt 24 8 o.code

/-- The order of a code; none for 0 and 15 to 255 (R173). -/
def OrderKind.ofCode : Nat → Option OrderKind
  | 1 => some .noOp | 2 => some .readSetting | 3 => some .writeSetting | 4 => some .storeSettings
  | 5 => some .restoreDefaults | 6 => some .snapshot | 7 => some .armWatch | 8 => some .disarmWatch
  | 9 => some .requestRestart | 10 => some .requestStandby | 11 => some .clearHistory | 12 => some .loadKeymap
  | 13 => some .unmaskKey | 14 => some .resetFilter | _ => none

/-- How many operand words an order uses, from word 1 up (the orders' tables). -/
def OrderKind.used : OrderKind → Nat
  | .noOp | .storeSettings | .restoreDefaults | .disarmWatch | .clearHistory | .resetFilter => 0
  | .readSetting | .requestRestart | .requestStandby | .unmaskKey => 1
  | .writeSetting => 2
  | .armWatch | .loadKeymap => 3
  | .snapshot => 4

/-- Whether every operand word that an order does not use is 0 (R173 check 3). -/
def OrderRecord.unusedClear (r : OrderRecord) (k : OrderKind) : Bool :=
  (r.operands.drop k.used).all fun w => decide (w = 0#32)

/-- A value brought between two bounds. -/
def clampBetween (lo hi v : Int) : Int := if v < lo then lo else if hi < v then hi else v

/-- A setting number that an operand names, none where it is not a known one (R193, R194). -/
def settingNumber (w : Word) : Option Nat := if isKnown w.toNat then some w.toNat else none

/-- A result of an order that was carried out as asked. -/
def orderDone (value detail : Word) : OrderResult := { outcome := .done, value := value, detail := detail }

/-- A result of an order that was refused: both result words 0 (R173). -/
def orderRefused (o : OrderOutcome) : OrderResult := { outcome := o, value := 0#32, detail := 0#32 }

/-- The positions that UNMASK_KEY names: one, or all for 255; none where the operand is neither (R147). -/
def unmaskOperand (w : Word) : Option (List Position) :=
  if w.toNat = 255 then some (List.finRange 48)
  else if h : w.toNat < 48 then some [⟨w.toNat, h⟩] else none

/-! ## Queues and layouts -/

/-- The words of the order queue of a layout: first and one past the last. -/
def Layout.orderSpan (l : Layout) : Nat × Nat := (l.orderBase, l.orderBase + (l.orderMask + 1) * 8)

/-- The words of the report queue of a layout. -/
def Layout.reportSpan (l : Layout) : Nat × Nat := (l.reportBase, l.reportBase + (l.reportMask + 1) * 4)

/-- Whether two runs of words share one. -/
def spansMeet (a b : Nat × Nat) : Bool := decide (a.1 < b.2 ∧ b.1 < a.2)

/-- The queue sizes that an attach accepts (R168). -/
def queueSizes : List Nat := [4, 8, 16, 32, 64, 128, 256]

/-- Whether a queue of `size` entries of `width` words has no legal place at a base (R168). -/
def misplaced (base size width : Nat) : Bool :=
  decide (base < 256) || decide (base % (size * width) ≠ 0) || decide (2048 < base + size * width)

/-- The checks of an attach in their order (R168), on the revision and the four layout words; OK where all pass. -/
def layoutCheck (revision : Word) (l : Layout) : AttachResult :=
  if revision ≠ 1#32 then .rev
  else if l.orderMask + 1 ∉ queueSizes then .orderSize
  else if l.reportMask + 1 ∉ queueSizes then .reportSize
  else if misplaced l.orderBase (l.orderMask + 1) 8 then .orderPlace
  else if misplaced l.reportBase (l.reportMask + 1) 4 then .reportPlace
  else if spansMeet l.orderSpan l.reportSpan then .overlap
  else .ok

/-- The layout that words 34 to 37 hold. -/
def State.hostLayout (s : State) : Layout :=
  { orderBase := (s.word 34).toNat, orderMask := (s.word 35).toNat, reportBase := (s.word 36).toNat,
    reportMask := (s.word 37).toNat }

/-! ## LOAD_KEYMAP and SNAPSHOT -/

/-- LOAD_KEYMAP's operands: source base, first position, count. -/
structure KeymapOperands where
  base : Nat
  first : Nat
  count : Nat
  deriving DecidableEq, Repr

/-- The operands of LOAD_KEYMAP, none where a range is left (R145). A negative operand reads as a large number here. -/
def keymapOperands (r : OrderRecord) : Option KeymapOperands :=
  let o : KeymapOperands := { base := r.w1.toNat, first := r.w2.toNat, count := r.w3.toNat }
  if o.base < 256 ∨ 2047 < o.base ∨ 47 < o.first ∨ o.count < 1 ∨ 48 < o.count ∨ 48 < o.first + o.count
    ∨ 2048 < o.base + o.count then none
  else some o

/-- Whether LOAD_KEYMAP names a position. -/
def KeymapOperands.names (o : KeymapOperands) (p : Position) : Bool :=
  decide (o.first ≤ p.val ∧ p.val < o.first + o.count)

/-- The source word of a named position. -/
def KeymapOperands.sourceOf (o : KeymapOperands) (p : Position) : Nat := o.base + (p.val - o.first)

/-- The window sections that SNAPSHOT copies: first word and length (R177, R178). -/
def snapshotSection (w : Word) : Option (Nat × Nat) :=
  match w.toNat with
  | 0 => some (64, 64)
  | 1 => some (128, 32)
  | 2 => some (160, 32)
  | 3 => some (192, 64)
  | _ => none

/-- SNAPSHOT's destination, computed without wrap (R177 check 4). -/
def snapshotTarget (r : OrderRecord) : Int := r.w2.toInt + (r.w3.toNat * 2 ^ r.w4.toNat : Nat)

/-- What SNAPSHOT copies: source, length, destination; none where a check of R177 fails. -/
def snapshotOperands (l : Layout) (r : OrderRecord) : Option (Nat × Nat × Nat) :=
  match snapshotSection r.w1 with
  | none => none
  | some (first, len) =>
    if 1023 < r.w3.toNat ∨ 7 < r.w4.toNat then none
    else
      let d := snapshotTarget r
      if d % 8 ≠ 0 ∨ d < 256 ∨ 2048 < d + len then none
      else if spansMeet (d.toNat, d.toNat + len) l.orderSpan || spansMeet (d.toNat, d.toNat + len) l.reportSpan then none
      else some (first, len, d.toNat)

end Sys2Proof.Machine
end

