-- ==== Sys2Proof/Machine/Exchange.lean ====
section
/-! DEFINITION. The host's accesses to the window (R161 to R163), the commits that EXC acts on (R161), attach and detach
(R168 to R170), the index-fault check (R171) and the heartbeat (R96, R97). -/

namespace Sys2Proof.Machine

/-! ## Attach and detach -/

/-- A successful attach (R169), on the layout that words 34 to 37 hold; the drain of its step 7 included (R187). -/
def State.attachDone (l : Layout) (s : State) : State :=
  State.drain
    { s with
      exc := { s.exc with
        layout := l, readIndex := s.orderWrite, lastOrder := 0, result := .ok, reason := .none, state := .attached
        inHand := s.exc.inHand.map fun h => { h with discard := true } }
      rpu := { s.rpu with writeIndex := s.reportRead, view := some { base := l.reportBase, mask := l.reportMask } } }

/-- A failed attach (R168): the result, the detach, the LAYOUT cause. -/
def State.attachFailed (r : AttachResult) (s : State) : State :=
  State.raise noticeLayout (State.detach .attachFailed { s with exc := { s.exc with result := r } })

/-- A commit of ATTACH that is taken (R168): the attach count rises, the checks decide. -/
def State.attachTaken (s : State) : State :=
  let s1 := { s with exc := { s.exc with attachCount := s.exc.attachCount + 1 } }
  match layoutCheck (s.word 33) s.hostLayout with
  | .ok => s1.attachDone s.hostLayout
  | r => s1.attachFailed r

/-- A commit of 1 to word 32 (R168): ignored while HOST_RESET is asserted. -/
def State.attachCommit (s : State) : State := if s.psq.hostReset then s else s.attachTaken

/-- A commit of 2 to word 32 (R170): ignored while DETACHED. -/
def State.detachCommit (s : State) : State :=
  if s.exc.state = .attached then s.detach .hostRequest else s

/-! ## Indices -/

/-- An order fault or a report fault (R171). -/
def State.indexFault (s : State) : Bool :=
  decide (s.exc.layout.orderMask + 1 < (s.orderWrite - s.exc.readIndex).toNat)
    || decide (s.exc.layout.reportMask + 1 < (s.rpu.writeIndex - s.reportRead).toNat)

/-- The detach for an index fault (R170, R171). -/
def State.faultDetach (s : State) : State := State.raise noticeLayout (s.detach .indexFault)

/-- The check at a commit of word 38 (R171). -/
def State.orderIndexCommit (s : State) : State :=
  if s.exc.state = .attached then (if s.indexFault then s.faultDetach else s) else s

/-- The check at a commit of word 39, with the drain that a commit without a fault offers (R171, R186). -/
def State.reportIndexCommit (s : State) : State :=
  if s.exc.state = .attached then (if s.indexFault then s.faultDetach else s.drain) else s

/-! ## The heartbeat -/

/-- What a heartbeat does by the watch phase (R97). -/
def State.heartbeatActs (s : State) : State :=
  match s.hbw.phase with
  | .boot => State.toRunning (State.watchOn { s with hbw := { s.hbw with source := .settings } })
  | .watch => s.watchOn
  | .grace => s.watchOn.toRunning
  | .none | .disarmed => s

/-- A committed value of word 40 (R96). -/
def State.heartbeatCommit (v : Word) (s : State) : State :=
  if v = s.hbw.lastValue then s
  else State.heartbeatActs
    { s with hbw := { s.hbw with lastValue := v, lastStamp := some s.uptime, count := s.hbw.count + 1 } }

/-! ## Host writes -/

/-- Whether a host write to a word is taken (R161): words 32 to 63 and 256 to 2047. -/
def hostWritable (w : WordAddr) : Bool := decide (32 ≤ w.toNat ∧ w.toNat ≤ 63) || decide (256 ≤ w.toNat)

/-- EXC's action at the commit of a word (R161). -/
def State.commitActs (w : Nat) (v : Word) (s : State) : State :=
  match w with
  | 32 => if v = 1#32 then s.attachCommit else if v = 2#32 then s.detachCommit else s
  | 38 => s.orderIndexCommit
  | 39 => s.reportIndexCommit
  | 40 => s.heartbeatCommit v
  | _ => s

/-- A commit of a whole word (R162): the staging latch is emptied, the word takes the value, EXC acts. -/
def State.commitWord (w : Nat) (v : Word) (s : State) : State :=
  State.commitActs w v (State.setWord w v { s with exc := { s.exc with staging := none } })

/-- A host write of a low half (R162). -/
def State.lowWrite (w : WordAddr) (h : Half) (s : State) : State :=
  if hostWritable w then { s with exc := { s.exc with staging := some { word := w, half := h } } } else s

/-- The low half that a high-half write to a word commits with (R162): the staged one, else the word's own. -/
def State.stagedLow (w : WordAddr) (s : State) : Half :=
  match s.exc.staging with
  | none => lowHalf (s.word w.toNat)
  | some l => if l.word = w then l.half else lowHalf (s.word w.toNat)

/-- A host write of a high half (R162). -/
def State.highWrite (w : WordAddr) (h : Half) (s : State) : State :=
  if hostWritable w then s.commitWord w.toNat (joinHalves (s.stagedLow w) h) else s

/-! ## Host reads -/

/-- A host read of a low half (R163). -/
def State.lowRead (w : WordAddr) (s : State) : State :=
  { s with exc := { s.exc with
      busData := some (lowHalf (s.word w.toNat)), readLatch := some { word := w, half := highHalf (s.word w.toNat) } } }

/-- A host read of a high half (R163). -/
def State.highRead (w : WordAddr) (s : State) : State :=
  match s.exc.readLatch with
  | none => { s with exc := { s.exc with busData := some (highHalf (s.word w.toNat)) } }
  | some l =>
    if l.word = w then { s with exc := { s.exc with busData := some l.half, readLatch := none } }
    else { s with exc := { s.exc with busData := some (highHalf (s.word w.toNat)) } }

/-! ## Host writes of the registers -/

/-- A write to NOTICE (R164): each cause whose bit is 1 is cleared. -/
def State.noticeWrite (v : Half) (s : State) : State := s.setPending (s.rpu.pending &&& ~~~(v.setWidth 4))

/-- A write to NOTICE ENABLE (R164): bits 0 to 3 are taken. -/
def State.enableWrite (v : Half) (s : State) : State := s.setEnable (v.setWidth 4)

end Sys2Proof.Machine
end

