-- ==== Sys2Proof/Machine/Orders.lean ====
section
/-! DEFINITION. The order intake (R172 to R174) and the fourteen orders (R63, R82, R103, R104, R113, R114, R145 to R147, R176 to
R178, R193 to R197). -/

namespace Sys2Proof.Machine

/-- What an order leaves: the state after its effect, and its result; no result for a store under way. -/
abbrev OrderStep := State × Option OrderResult

/-! ## The fourteen orders, each past the checks that every order passes -/

/-- NO_OP (R176). -/
def orderNoOp (s : State) : OrderStep := (s, some (orderDone s.uptime (BitVec.ofNat 32 s.rpu.holding.length)))

/-- READ_SETTING (R193). -/
def orderReadSetting (r : OrderRecord) (s : State) : OrderStep :=
  match settingNumber r.w1 with
  | none => (s, some (orderRefused .badOperand))
  | some n => (s, some (orderDone (signedWord (s.setting n)) (signedWord (settingAt defaultTable n))))

/-- WRITE_SETTING (R194). -/
def orderWriteSetting (r : OrderRecord) (s : State) : OrderStep :=
  match settingNumber r.w1 with
  | none => (s, some (orderRefused .badOperand))
  | some n =>
    let v := clampSetting s.sst.table n r.w2.toInt
    ((s.placeSetting n v).settingWritten n,
      some { outcome := if v = r.w2.toInt then .done else .clamped, value := signedWord v,
             detail := signedWord (s.setting n) })

/-- STORE_SETTINGS (R197): it completes when the store ends. -/
def orderStoreSettings (s : State) : OrderStep := (s.beginStore, none)

/-- RESTORE_DEFAULTS (R195, R146). The keys are reset before the restored settings act, so that no key timer expires under a
restored time (DESIGN CHOICE, log 37). -/
def orderRestoreDefaults (s : State) : OrderStep :=
  let s1 := { s with sst := { s.sst with table := defaultTable } }
  let s2 := s1.replaceEntries (fun _ => true) defaultKeyMap
  (immediateSettings.foldl (fun s n => s.settingWritten n) s2,
    some (orderDone (BitVec.ofNat 32 (settingsOffDefault s.sst.table))
      (BitVec.ofNat 32 (s.maskedAmong fun _ => true))))

/-- The update count that SNAPSHOT's result gives (R178): the section's own, or the history update count. -/
def State.snapshotCount (s : State) (first : Nat) : Word :=
  if first = 192 then s.hbw.historyUpdates else s.word first

/-- SNAPSHOT (R177, R178). -/
def orderSnapshot (r : OrderRecord) (s : State) : OrderStep :=
  match snapshotOperands s.exc.layout r with
  | none => (s, some (orderRefused .badOperand))
  | some (first, len, target) =>
    (s.setWords target (s.mem.wordsFrom first len), some (orderDone (s.snapshotCount first) (BitVec.ofNat 32 target)))

/-- HBW armed by an order (R103). -/
def State.armed (source : ArmSource) (window grace : Nat) (s : State) : State :=
  State.toRunning
    (State.watchOn { s with hbw := { s.hbw with source := source, orderWindow := window, orderGrace := grace } })

/-- ARM_WATCH's result (R103). -/
def armResult (clamped : Bool) (s : State) : OrderResult :=
  { outcome := if clamped then .clamped else .done, value := BitVec.ofNat 32 s.windowInForce,
    detail := BitVec.ofNat 32 s.graceInForce }

/-- ARM_WATCH (R103). -/
def orderArmWatch (r : OrderRecord) (s : State) : OrderStep :=
  if 1 < r.w3.toNat ∨ (r.w3 = 1#32 ∧ (r.w1 ≠ 0#32 ∨ r.w2 ≠ 0#32)) then (s, some (orderRefused .badOperand))
  else if s.psq.state.up = false then (s, some (orderRefused .wrongState))
  else if r.w3 = 1#32 then
    let s1 := s.armed .settings s.hbw.orderWindow s.hbw.orderGrace
    (s1, some (armResult false s1))
  else
    let w := clampBetween 1 600 r.w1.toInt
    let g := clampBetween 0 60 r.w2.toInt
    let s1 := s.armed .order w.toNat g.toNat
    (s1, some (armResult (decide (w ≠ r.w1.toInt) || decide (g ≠ r.w2.toInt)) s1))

/-- DISARM_WATCH (R104). -/
def orderDisarmWatch (s : State) : OrderStep :=
  if s.psq.state ≠ .running ∧ s.psq.state ≠ .warned then (s, some (orderRefused .wrongState))
  else if s.windowOpen = false then (s, some (orderRefused .locked))
  else
    (State.disarmToRunning { s with hbw := { s.hbw with phase := .disarmed, boot := none, watch := none, grace := none } },
      some (orderDone (BitVec.ofNat 32 s.hbw.phase.code) 0#32))

/-- The cause that REQUEST_RESTART's operand names, none where it is neither (R113). -/
def restartCause (w : Word) : Option Cause :=
  if w = 1#32 then some .hostWarm else if w = 2#32 then some .hostCold else none

/-- REQUEST_RESTART (R113). -/
def orderRequestRestart (r : OrderRecord) (s : State) : OrderStep :=
  match restartCause r.w1 with
  | none => (s, some (orderRefused .badOperand))
  | some c =>
    if s.psq.state.up = false then (s, some (orderRefused .wrongState))
    else (s.fail c, some (orderDone (BitVec.ofNat 32 s.hbw.nextSeq) (BitVec.ofNat 32 (s.actionFor c).code)))

/-- REQUEST_STANDBY (R82). -/
def orderRequestStandby (r : OrderRecord) (s : State) : OrderStep :=
  if s.psq.state.up = false then (s, some (orderRefused .wrongState))
  else
    let d := clampBetween 0 600 r.w1.toInt
    (s.enterShutdown d.toNat,
      some { outcome := if d = r.w1.toInt then .done else .clamped, value := signedWord d,
             detail := BitVec.ofNat 32 s.psq.state.code })

/-- CLEAR_HISTORY (R114). -/
def orderClearHistory (s : State) : OrderStep :=
  (s.setHistory [], some (orderDone (BitVec.ofNat 32 s.hbw.history.length) (BitVec.ofNat 32 s.hbw.nextSeq)))

/-- The entries that LOAD_KEYMAP's source words give the named positions, the present ones elsewhere. -/
def State.sourceEntries (s : State) (o : KeymapOperands) : KeyMap :=
  Vector.ofFn fun p =>
    if o.names p then (KeyEntry.ofWord (s.word (o.sourceOf p))).getD (s.entry p) else s.entry p

/-- Whether every source word of LOAD_KEYMAP is well formed (R145). -/
def State.sourceValid (s : State) (o : KeymapOperands) : Bool :=
  (List.range o.count).all fun i => (KeyEntry.ofWord (s.word (o.base + i))).isSome

/-- LOAD_KEYMAP (R145, R146). -/
def orderLoadKeymap (r : OrderRecord) (s : State) : OrderStep :=
  match keymapOperands r with
  | none => (s, some (orderRefused .badOperand))
  | some o =>
    if s.sourceValid o then
      (s.replaceEntries o.names (s.sourceEntries o),
        some (orderDone (BitVec.ofNat 32 o.count) (BitVec.ofNat 32 (s.maskedAmong o.names))))
    else (s, some (orderRefused .badOperand))

/-- Whether a position is used and masked. -/
def State.releasable (s : State) (p : Position) : Bool := (s.entry p).used && decide ((s.key p).mask ≠ .none)

/-- UNMASK_KEY (R147). -/
def orderUnmaskKey (r : OrderRecord) (s : State) : OrderStep :=
  match unmaskOperand r.w1 with
  | none => (s, some (orderRefused .badOperand))
  | some ps =>
    (ps.foldl (fun s p => if (s.entry p).used then s.unmaskKey 2 true p else s) s,
      some (orderDone (BitVec.ofNat 32 (ps.countP s.releasable))
        (BitVec.ofNat 32 (ps.countP fun p => s.releasable p && (s.key p).deb))))

/-- RESET_FILTER (R63). -/
def orderResetFilter (s : State) : OrderStep :=
  ({ s with fc := { s.fc with clog := 0, filterFlag := false } },
    some (orderDone (BitVec.ofNat 32 s.fc.clog) (BitVec.ofNat 32 (boolCode s.fc.filterFlag))))

/-- An order's owner examines its own operands and the state, and carries the order out (R173 checks 3 to 5). -/
def State.perform (k : OrderKind) (r : OrderRecord) (s : State) : OrderStep :=
  match k with
  | .noOp => orderNoOp s
  | .readSetting => orderReadSetting r s
  | .writeSetting => orderWriteSetting r s
  | .storeSettings => orderStoreSettings s
  | .restoreDefaults => orderRestoreDefaults s
  | .snapshot => orderSnapshot r s
  | .armWatch => orderArmWatch r s
  | .disarmWatch => orderDisarmWatch s
  | .requestRestart => orderRequestRestart r s
  | .requestStandby => orderRequestStandby r s
  | .clearHistory => orderClearHistory s
  | .loadKeymap => orderLoadKeymap r s
  | .unmaskKey => orderUnmaskKey r s
  | .resetFilter => orderResetFilter s

/-- The examination of an order in hand (R173). -/
def State.examine (r : OrderRecord) (s : State) : OrderStep :=
  if r.void then (s, some (orderRefused .skipped))
  else match OrderKind.ofCode r.code with
    | none => (s, some (orderRefused .unknown))
    | some k => if r.unusedClear k then s.perform k r else (s, some (orderRefused .badOperand))

/-! ## Take and completion -/

/-- The word address of the slot of the order read index (R172). -/
def State.orderSlot (s : State) : Nat :=
  s.exc.layout.orderBase + (s.exc.readIndex.toNat &&& s.exc.layout.orderMask) * 8

/-- Whether a trigger takes an order (R172). -/
def State.canTake (s : State) : Bool :=
  decide (s.exc.state = .attached) && s.exc.inHand.isNone && decide (s.exc.readIndex ≠ s.orderWrite)

/-- The order in hand that a take makes (R172). -/
def State.taken (s : State) : OrderInHand :=
  { record := s.recordAt s.orderSlot, entry := s.orderSlot, discard := false, result := none }

/-- An order taken, examined and carried out in one step (R172, R173). -/
def State.takeOrder (s : State) : State :=
  let s1 := { s with exc := { s.exc with inHand := some s.taken, lastOrder := s.taken.record.code } }
  let p := s1.examine s.taken.record
  { p.1 with exc := { p.1.exc with inHand := p.1.exc.inHand.map fun h => { h with result := p.2 } } }

/-- A written completion (R174): the result words, word 0, the read index, the DONE cause. -/
def State.writeOutcome (h : OrderInHand) (r : OrderResult) (s : State) : State :=
  let s1 := (s.setWords (h.entry + 6) [r.value, r.detail]).setWord h.entry (h.record.answer r.outcome)
  State.raiseAttached noticeDone { s1 with exc := { s1.exc with readIndex := s1.exc.readIndex + 1 } }

/-- PSQ's delay timer at the completion of its order (R82, R174): it starts, and a delay of 0 s ends at once (log 29). -/
def State.startDelay (s : State) : State :=
  match s.psq.delay with
  | .waiting n =>
    if n = 0 then s.endShutdown
    else { s with psq := { s.psq with delay := .running (s.countdown (secondsUs n)) } }
  | .stopped | .running _ => s

/-- The completion of the order in hand (R174), where its result is known: written or internal, then its owner is told, then
the intake is IDLE. -/
def State.completeOrder (s : State) : State :=
  match s.exc.inHand with
  | none => s
  | some h =>
    match h.result with
    | none => s
    | some r =>
      let s1 := if h.discard then s else s.writeOutcome h r
      let s2 := s1.carryOutHeld.startDelay
      { s2 with exc := { s2.exc with inHand := none } }

/-- Whether an order is in hand whose result is known (R174). -/
def State.resultKnown (s : State) : Bool :=
  match s.exc.inHand with
  | none => false
  | some h => h.result.isSome

/-- Triggers in a row, each completion being one (R172): orders are taken and completed until none can be. -/
def State.intakeRun : Nat → State → State
  | 0, s => s
  | n + 1, s =>
    if s.canTake then
      let s1 := State.act {} State.takeOrder s
      if s1.resultKnown then State.intakeRun n (State.act {} State.completeOrder s1) else s1
    else s

/-- An intake trigger (R172), with the orders that its completions take in turn: as many as stand in the queue. -/
def State.intake (s : State) : State := s.intakeRun (s.orderWrite - s.exc.readIndex).toNat

/-- An intake trigger that carries the order it takes as far as asked (R172, R175). -/
def State.trigger (reach : IntakeReach) (s : State) : State :=
  match reach with
  | .toAnswer => s.intake
  | .toTake => if s.canTake then State.act {} State.takeOrder s else s

/-- The completion of the order in hand, and the trigger that it is (R174). -/
def State.completeAndTrigger (next : IntakeReach) (s : State) : State :=
  if s.resultKnown then (State.act {} State.completeOrder s).trigger next else s

/-! ## An order's take and completion as commands of their own (log 7) -/

/-- Whether the next entry can be taken and holds an order of a kind. -/
def State.nextIs (k : OrderKind) (s : State) : Bool :=
  s.canTake && decide (OrderKind.ofCode s.taken.record.code = some k)

/-- Whether the order in hand is of a kind. An order of a code that no row has is completed by NO_OP's row (log 7). -/
def State.inHandIs (k : OrderKind) (s : State) : Bool :=
  match s.exc.inHand with
  | none => false
  | some h => decide ((OrderKind.ofCode h.record.code).getD .noOp = k)

/-- The take of an order of a kind (R172, R173). -/
def State.takeKind (k : OrderKind) (s : State) : State := if s.nextIs k then State.act {} State.takeOrder s else s

/-- The completion of an order of a kind (R174). -/
def State.completeKind (k : OrderKind) (next : IntakeReach) (s : State) : State :=
  if s.inHandIs k then s.completeAndTrigger next else s

/-- An order of a kind, in the part of its life that a command stands for. -/
def State.orderPhase (k : OrderKind) (phase : OrderPhase) (s : State) : State :=
  match phase with
  | .carryOut => s.takeKind k
  | .complete next => s.completeKind k next
  | .whole next => if s.nextIs k then (State.act {} State.takeOrder s).completeAndTrigger next else s

/-- An order command: nothing while the part is held in a reset. -/
def State.order (dt : Nat) (k : OrderKind) (phase : OrderPhase) (s : State) : Result := s.live dt (State.orderPhase k phase)

/-- A store's end with a result, as a command's effect (R174, R197): nothing where no store is under way. -/
def State.storeEnds (r : OrderResult) (next : IntakeReach) (s : State) : State :=
  if s.sst.store = .storing then (s.endStore r).completeAndTrigger next else s

/-! ## A failure with an intake trigger inside -/

/-- An expiry that fails the computer (R105), with the intake trigger that may come between HBW's decision and PSQ's carrying it
out (R102): the order it takes meets the watch as the decision left it, and PSQ's transition follows. -/
def State.failWith (c : Cause) (between : Option IntakeReach) (s : State) : State :=
  match between with
  | none => State.act {} (State.fail c) s
  | some reach =>
    if s.psq.state.takesFailure then
      State.act {} (State.carryOutNow (s.actionFor c)) ((State.act {} (State.decided c) s).trigger reach)
    else s

end Sys2Proof.Machine
end

