-- ==== Sys2Proof/Machine/Resets.lean ====
section
/-! DEFINITION. The two part resets and their end (R198, R202), and the part's own ticks and inputs (R68, R166). -/

namespace Sys2Proof.Machine

/-- Every block at its reset values (R198): the window is zeroed by a supply reset and kept by a pin reset until the reset's
end. The clock, the levels of HOST_PG and VDD and the command queue go on. -/
def State.partReset (k : ResetKind) (s : State) : State :=
  { State.reset with
    clock := s.clock, tickAt := s.clock, resetting := some k, vddUp := s.vddUp, resetCause := k
    psq := .reset s.psq.hostPg
    mem := match k with
      | .supply => []
      | .pin => s.mem
    pending := s.pending }

/-- VDD at a level (R202): below its threshold a supply reset is taken, and one that is under way lasts on; above it the time
for which VDD has stayed up runs from the first such level; exactly at it VDD is neither below nor above (log 41). -/
def State.supplyAt (mv : Nat) (s : State) : State :=
  if mv < Config.supplyThresholdMv then State.partReset .supply { s with vddUp := none }
  else if mv = Config.supplyThresholdMv then { s with vddUp := none }
  else { s with vddUp := some (s.vddUp.getD s.clock) }

/-- RESET_N low for a time (R202): 1 µs or more takes a pin reset; a reset under way keeps its kind (R198). -/
def State.resetPin (ns : Nat) (s : State) : State :=
  if Config.pinResetNs ≤ ns ∧ s.resetting = none then s.partReset .pin else s

/-- Whether the reset can end (R198, R202): VDD is above its threshold, and, for a supply reset, has stayed there for 10 ms. -/
def State.resetCanEnd (s : State) : Bool :=
  match s.resetting with
  | none => false
  | some .pin => s.vddUp.isSome
  | some .supply => s.reached s.vddUp Config.supplyHoldUs

/-- The anchor part fields initialised (R166): all but word 10, which the load's completion writes (log 25). -/
def State.initAnchor (s : State) : State :=
  let s1 := s.setWords 0 ((List.range 10).map s.anchorValue)
  s1.setWords 11 ((List.range 21).map fun i => s.anchorValue (11 + i))

/-- The mirror sections initialised (R167): counts 0, bodies at the reset values. -/
def State.initMirror (s : State) : State :=
  ((s.writeSection .climate 0#32).writeSection .supervision 0#32).writeSection .panel 0#32

/-- The end of a reset (R198): uptime from 0, LOADING entered, HOST_PG's deglitch started where it is asserted (R66), the last
heartbeat value read (R94; at this moment of the start-up: DESIGN CHOICE, log 34), the window set. -/
def State.endReset (s : State) : State :=
  let s1 := { s with
    resetting := none, uptime := 0#32, tickAt := s.clock
    sst := { s.sst with since := s.clock }
    psq := { s.psq with deglitch := if s.psq.hostPg then some s.clock else none }
    hbw := { s.hbw with lastValue := s.word 40 } }
  s1.initAnchor.initMirror

/-- A tick is due: 10 ms since the last (R166). -/
def State.tickDue (s : State) : Bool := decide (s.tickAt + Config.tickUs ≤ s.clock)

/-- One tick of uptime (R166). -/
def State.tick (s : State) : State := { s with uptime := s.uptime + 1, tickAt := s.clock }

/-- HOST_PG at a level (R68): a changed level starts the deglitch where it differs from PG seen and stops it where it does
not. The input changes in a reset too, and nothing follows from it there. -/
def State.hostPgAt (level : Bool) (s : State) : State :=
  if s.psq.hostPg = level then s
  else { s with psq := { s.psq with
      hostPg := level
      deglitch := if s.resetting.isSome then s.psq.deglitch
        else if level = s.psq.pgSeen then none else some s.clock } }

/-- The deglitch time reached (R68). -/
def State.deglitchExpiry (s : State) : State :=
  State.pgChanged s.psq.hostPg { s with psq := { s.psq with deglitch := none } }

end Sys2Proof.Machine
end

