-- ==== Sys2Proof/Machine/Pins.lean ====
section
/-! DEFINITION. The part's outputs as the surroundings see them (R201), read off the state. -/

namespace Sys2Proof.Machine

/-- The outputs of R201, true for a driven or asserted line as its own docstring says. -/
structure Pins where
  /-- ATTN_N is asserted (low). -/
  attn : Bool
  /-- MAIN_EN is on (high). -/
  mainEn : Bool
  /-- HOST_RESET_N is asserted (low). -/
  hostReset : Bool
  /-- HTR0 to HTR3 are on (high). -/
  heaters : Vector Bool 4
  /-- The duty on FPWM0 and FPWM1, 0 to 256 (R40). -/
  fans : Vector Nat 2
  /-- The driven LGRP line, if one is (R150). -/
  group : Option (Fin 4)
  /-- LAMP0 to LAMP3 (R150). -/
  lamps : BitVec 4
  /-- HD0 to HD15 are driven when the host reads; where false they stay at high impedance. -/
  busEnabled : Bool
  /-- The keypad's columns are scanned, not released: KPS has begun to scan (R122). -/
  columns : Bool
  /-- The EEPROM port is in use: a load or a store is under way (R196). -/
  eepromPort : Bool
  deriving DecidableEq, Repr

/-- HD0 to HD15 can be driven: from EXC's first act after start-up, which is at the load's completion (R201, R200). From the
start of a reset until then they are at high impedance; what a read in LOADING does inside EXC is log 45. -/
def State.busDriven (s : State) : Bool := s.resetting.isNone && decide (s.sst.store ≠ .loading)

/-- The outputs of a state. -/
def State.pins (s : State) : Pins :=
  { attn := s.rpu.attn, mainEn := s.psq.mainEn, hostReset := s.psq.hostReset, heaters := s.zc.heaterOn
    fans := onEach Fan.grant s.fc.fans, group := s.ind.group, lamps := s.ind.lit, busEnabled := s.busDriven
    columns := s.kps.nextScan.isSome
    eepromPort := s.resetting.isNone && decide (s.sst.store ≠ .idle) }

/-- Whether lamp n is driven at this moment: its group's line and its own (R201). -/
def Pins.lampLit (p : Pins) (n : Fin 16) : Bool :=
  match p.group with
  | none => false
  | some g => decide (g.val = n.val / 4) && p.lamps.getLsbD (n.val % 4)

end Sys2Proof.Machine
end

