-- ==== Sys2Proof/Machine/ExecClimate.lean ====
section
/-! DEFINITION. The meanings of the climate commands: the control period, the tach inputs and the end of a heater's on time. -/

namespace Sys2Proof.Machine

/-- CONTROL_PERIOD (R13, R31, R51, R200): acts at 250 ms of the period timer. -/
def execControlPeriod (dt : Nat) (ms : Vector Measurement 6) (turn : PsqTurn) (s : State) : Result :=
  s.commandIf dt { period := true } (fun s => s.reached s.period Config.controlPeriodUs) (State.controlPeriod ms turn)

/-- TACH_EDGE (R55), from the end of the reset on, before the start-up load completes too (DESIGN CHOICE, log 44). -/
def execTachEdge (dt : Nat) (fan : Fin 2) (s : State) : Result :=
  s.command dt {} fun s => s.setFan fan (s.fc.fans[fan].edge s.clock)

/-- TACH_OVERRUN (R55), as for an edge (DESIGN CHOICE, log 44). -/
def execTachOverrun (dt : Nat) (fan : Fin 2) (s : State) : Result :=
  s.command dt {} fun s => s.setFan fan (s.fc.fans[fan].passOverrun s.clock)

/-- HEATER_ON_TIME_END (R39). -/
def execHeaterOnTimeEnd (dt : Nat) (zone : Fin 4) (s : State) : Result :=
  s.commandIf dt {} (State.heaterDue zone) (State.heaterOff zone)

end Sys2Proof.Machine
end

