-- ==== Sys2Proof/Machine/ExecHost.lean ====
section
/-! DEFINITION. The meanings of the host's accesses: window halves, commits that EXC acts on, and the registers; and of the
intake poll. -/

namespace Sys2Proof.Machine

/-- WINDOW_LOW_HALF_WRITE (R161, R162). -/
def execWindowLowHalfWrite (dt : Nat) (word : WordAddr) (half : Half) (s : State) : Result :=
  s.command dt {} (State.lowWrite word half)

/-- WINDOW_HIGH_HALF_WRITE (R161, R162). -/
def execWindowHighHalfWrite (dt : Nat) (word : WordAddr) (half : Half) (s : State) : Result :=
  s.command dt {} (State.highWrite word half)

/-- WINDOW_LOW_HALF_READ (R163). -/
def execWindowLowHalfRead (dt : Nat) (word : WordAddr) (s : State) : Result := s.command dt {} (State.lowRead word)

/-- WINDOW_HIGH_HALF_READ (R163). -/
def execWindowHighHalfRead (dt : Nat) (word : WordAddr) (s : State) : Result := s.command dt {} (State.highRead word)

/-- ATTACH (R168, R169): a commit of 1 to word 32. -/
def execAttach (dt : Nat) (s : State) : Result := s.command dt {} (State.commitWord 32 1#32)

/-- DETACH (R170): a commit of 2 to word 32. -/
def execDetach (dt : Nat) (s : State) : Result := s.command dt {} (State.commitWord 32 2#32)

/-- ORDER_WRITE_INDEX (R171): a commit of word 38. -/
def execOrderWriteIndex (dt : Nat) (value : Word) (s : State) : Result := s.command dt {} (State.commitWord 38 value)

/-- REPORT_READ_INDEX (R171, R186): a commit of word 39. -/
def execReportReadIndex (dt : Nat) (value : Word) (s : State) : Result := s.command dt {} (State.commitWord 39 value)

/-- HEARTBEAT (R96, R97): a commit of word 40. -/
def execHeartbeat (dt : Nat) (value : Word) (s : State) : Result := s.command dt {} (State.commitWord 40 value)

/-- NUDGE (R164, R172): an intake trigger, whatever the value. -/
def execNudge (now : TriggerTime) (_value : Half) (s : State) : Result := s.live now.dt (State.trigger now.reach)

/-- NOTICE (R164). -/
def execNotice (dt : Nat) (value : Half) (s : State) : Result := s.command dt {} (State.noticeWrite value)

/-- NOTICE_ENABLE (R164). -/
def execNoticeEnable (dt : Nat) (value : Half) (s : State) : Result := s.command dt {} (State.enableWrite value)

/-- REGISTER_WRITE_IGNORED (R164): a write of IDENT does nothing. -/
def execRegisterWriteIgnored (dt : Nat) (_value : Half) (s : State) : Result := s.command dt {} id

/-- INTAKE_POLL_TIMER_EXPIRY (R165, R172, R186): the timer restarts, an intake trigger, then a drain (log 10). -/
def execIntakePollTimerExpiry (now : TriggerTime) (s : State) : Result :=
  s.live now.dt fun s =>
    if s.reached s.exc.poll Config.intakePollUs then
      State.act {} State.drain (State.trigger now.reach { s with exc := { s.exc with poll := some s.clock } })
    else s

end Sys2Proof.Machine
end

