-- ==== Sys2Proof/Machine/ExecKeypad.lean ====
section
/-! DEFINITION. The meanings of the keypad's commands: scans and the expiries of KPS's timers (R124 to R143). -/

namespace Sys2Proof.Machine

/-- SLOW_SCAN (R125): acts in SLOW when the scan is due. -/
def execSlowScan (dt : Nat) (raw : BitVec 48) (s : State) : Result :=
  s.commandIf dt {} (State.scanDue .slow) (State.slowScan raw)

/-- ACTIVE_SCAN (R126): acts in ACTIVE when the scan is due. -/
def execActiveScan (dt : Nat) (raw : BitVec 48) (s : State) : Result :=
  s.commandIf dt {} (State.scanDue .active) (State.activeScan raw)

/-- ACTIVITY_TIMER_EXPIRY (R124). -/
def execActivityTimerExpiry (dt : Nat) (s : State) : Result :=
  s.commandIf dt {} (fun s => s.reached s.kps.activity Config.activityUs)
    fun s => { s with kps := { s.kps with activity := none } }

/-- REPEAT_DELAY (R133). -/
def execRepeatDelay (dt : Nat) (pos : Position) (s : State) : Result := s.command dt {} (State.repeatDelayExpiry pos)

/-- REPEAT_INTERVAL (R133). -/
def execRepeatInterval (dt : Nat) (pos : Position) (s : State) : Result :=
  s.command dt {} (State.repeatIntervalExpiry pos)

/-- STUCK_TIME (R137). -/
def execStuckTime (dt : Nat) (pos : Position) (s : State) : Result := s.command dt {} (State.stuckExpiry pos)

/-- CHATTER_QUIET_TIME (R139). -/
def execChatterQuietTime (dt : Nat) (pos : Position) (s : State) : Result := s.command dt {} (State.quietExpiry pos)

/-- CHATTER_WINDOW_RESTART (R138): every count becomes 0 and the panel section is rewritten (R149). -/
def execChatterWindowRestart (dt : Nat) (s : State) : Result :=
  s.commandIf dt { chatter := true } (fun s => s.reached s.kps.chatterWindow Config.chatterWindowUs)
    fun s => { s with kps := { s.kps with
      chatterWindow := some s.clock, keys := onEach (fun k => { k with transitions := 0 }) s.kps.keys } }

/-- CHORD_FIRE (R141). -/
def execChordFire (dt : Nat) (s : State) : Result := s.command dt {} State.chordExpiry

/-- SERVICE_WINDOW_CLOSE (R143). -/
def execServiceWindowClose (dt : Nat) (s : State) : Result := s.command dt {} State.windowExpiry

/-- OPERATOR_RESTART (R115, R135): a key fires, or failures of KPS are delayed on their way to HBW, or one arrives (log 43). -/
def execOperatorRestart (now : OperatorTime) (pos : Position) (s : State) : Result :=
  s.command now.dt {} (State.operatorPart now.part pos)

end Sys2Proof.Machine
end

