-- ==== Sys2Proof/Machine/ExecLamps.lean ====
section
/-! DEFINITION. The meanings of IND's commands: frame starts, group slots and the end of a lamp test (R150 to R160). -/

namespace Sys2Proof.Machine

/-- FRAME_START (R153): acts at 20 ms of the frame timer. -/
def execFrameStart (dt : Nat) (s : State) : Result :=
  s.commandIf dt { frame := true } (fun s => s.reached s.ind.frame Config.frameUs) State.frameStart

/-- GROUP_SLOT (R150, R151). -/
def execGroupSlot (dt : Nat) (s : State) : Result := s.commandIf dt {} State.slotDue State.slotStart

/-- LAMP_TEST_EXPIRY (R159). -/
def execLampTestExpiry (dt : Nat) (s : State) : Result :=
  s.commandIf dt {} (fun s => s.reached s.ind.lampTest Config.lampTestUs)
    fun s => { s with ind := { s.ind with lampTest := none } }

end Sys2Proof.Machine
end

