-- ==== Sys2Proof/Machine/ExecOrders.lean ====
section
/-! DEFINITION. The meanings of the order commands (R172 to R174; log 7) and of a store's ends (R197). The effect of each order
is its own definition in Orders.lean; here it is taken and completed. -/

namespace Sys2Proof.Machine

/-- NO_OP (R176). -/
def execNoOp (dt : Nat) (phase : OrderPhase) (s : State) : Result := s.order dt .noOp phase

/-- READ_SETTING (R193). -/
def execReadSetting (dt : Nat) (phase : OrderPhase) (s : State) : Result := s.order dt .readSetting phase

/-- WRITE_SETTING (R194). -/
def execWriteSetting (dt : Nat) (phase : OrderPhase) (s : State) : Result := s.order dt .writeSetting phase

/-- STORE_SETTINGS (R197). -/
def execStoreSettings (dt : Nat) (phase : OrderPhase) (s : State) : Result := s.order dt .storeSettings phase

/-- RESTORE_DEFAULTS (R195). -/
def execRestoreDefaults (dt : Nat) (phase : OrderPhase) (s : State) : Result := s.order dt .restoreDefaults phase

/-- SNAPSHOT (R177, R178). -/
def execSnapshot (dt : Nat) (phase : OrderPhase) (s : State) : Result := s.order dt .snapshot phase

/-- ARM_WATCH (R103). -/
def execArmWatch (dt : Nat) (phase : OrderPhase) (s : State) : Result := s.order dt .armWatch phase

/-- DISARM_WATCH (R104). -/
def execDisarmWatch (dt : Nat) (phase : OrderPhase) (s : State) : Result := s.order dt .disarmWatch phase

/-- REQUEST_RESTART (R113). -/
def execRequestRestart (dt : Nat) (phase : OrderPhase) (s : State) : Result := s.order dt .requestRestart phase

/-- REQUEST_STANDBY (R82). -/
def execRequestStandby (dt : Nat) (phase : OrderPhase) (s : State) : Result := s.order dt .requestStandby phase

/-- CLEAR_HISTORY (R114). -/
def execClearHistory (dt : Nat) (phase : OrderPhase) (s : State) : Result := s.order dt .clearHistory phase

/-- LOAD_KEYMAP (R145, R146). -/
def execLoadKeymap (dt : Nat) (phase : OrderPhase) (s : State) : Result := s.order dt .loadKeymap phase

/-- UNMASK_KEY (R147). -/
def execUnmaskKey (dt : Nat) (phase : OrderPhase) (s : State) : Result := s.order dt .unmaskKey phase

/-- RESET_FILTER (R63). -/
def execResetFilter (dt : Nat) (phase : OrderPhase) (s : State) : Result := s.order dt .resetFilter phase

/-- STORE_SETTINGS_END (R197): the read-back, or a transfer without an answer, ends the store. -/
def execStoreSettingsEnd (now : TriggerTime) (result : ReadBack) (s : State) : Result :=
  s.live now.dt fun s => s.storeEnds (storeResult s.storeCopy result) now.reach

/-- STORE_TIMEOUT (R197): 400 ms since the order was carried out end the store. -/
def execStoreTimeout (now : TriggerTime) (word : Fin 153) (s : State) : Result :=
  s.live now.dt fun s => if s.storeFor Config.storeUs then s.storeEnds (storeFailed word.val 3) now.reach else s

end Sys2Proof.Machine
end

