-- ==== Sys2Proof/Machine/ExecPart.lean ====
section
/-! DEFINITION. The meanings of the commands of the part as a whole: resets, start-up, the EEPROM's answers to a load or a
store, and ticks. -/

namespace Sys2Proof.Machine

/-- SUPPLY_RESET (R198, R202). -/
def execSupplyReset (dt vddMv : Nat) (s : State) : Result := .next ((s.elapse dt).supplyAt vddMv)

/-- PIN_RESET (R198, R202). -/
def execPinReset (dt lowNs : Nat) (s : State) : Result := .next ((s.elapse dt).resetPin lowNs)

/-- RESET_END (R198, R202). -/
def execResetEnd (dt : Nat) (s : State) : Result := .next ((s.elapse dt).guarded State.resetCanEnd State.endReset)

/-- START_UP_LOAD (R199, R200): acts while LOADING. -/
def execStartUpLoad (dt : Nat) (image : ReadBack) (s : State) : Result :=
  s.commandIf dt { frame := true } (fun s => decide (s.sst.store = .loading)) (State.startUp image)

/-- EEPROM_ACK_TIMEOUT (R197, R199): no answer, to the load or to the store under way, no sooner than 10 ms after it began
(log 38). -/
def execEepromAckTimeout (now : TriggerTime) (word : Fin 153) (s : State) : Result :=
  s.live now.dt fun s =>
    if s.storeFor Config.ackUs then
      match s.sst.store with
      | .idle => s
      | .loading => State.act { frame := true } (State.startUp (.noAnswer word)) s
      | .storing => s.storeEnds (storeFailed word.val 1) now.reach
    else s

/-- UPTIME_TICK (R166), with the supervision section where HBW's timer has a tick less to run (R118). -/
def execUptimeTick (dt : Nat) (s : State) : Result := s.commandIf dt { tick := true } State.tickDue State.tick

end Sys2Proof.Machine
end

