-- ==== Sys2Proof/Machine/ExecPower.lean ====
section
/-! DEFINITION. The meanings of the sequencer's and the watch's commands: the HOST_PG input and the expiries of PSQ's and HBW's
timers. An expiry acts only where its timer runs in its state and has reached its time (log 1). -/

namespace Sys2Proof.Machine

/-- HOST_PG_CHANGE (R68). -/
def execHostPgChange (dt : Nat) (level : Bool) (s : State) : Result := .next ((s.elapse dt).hostPgAt level)

/-- PG_DEGLITCH_EXPIRY (R68). -/
def execPgDeglitchExpiry (dt : Nat) (s : State) : Result :=
  s.commandIf dt {} (fun s => s.reached s.psq.deglitch Config.deglitchUs) State.deglitchExpiry

/-- SETTLE_TIMER_EXPIRY (R72, R74). -/
def execSettleTimerExpiry (dt : Nat) (s : State) : Result :=
  s.commandIf dt {} (fun s => decide (s.psq.state = .powering) && s.reached s.psq.settle Config.settleUs)
    (State.enterBooting 0)

/-- POWER_GOOD_TIMER_EXPIRY (R73). -/
def execPowerGoodTimerExpiry (dt : Nat) (s : State) : Result :=
  s.commandIf dt {} (fun s => decide (s.psq.state = .powering) && s.reached s.psq.pgTimer Config.powerGoodUs)
    State.pgTimeout

/-- PULSE_TIMER_EXPIRY (R80). -/
def execPulseTimerExpiry (dt : Nat) (s : State) : Result :=
  s.commandIf dt {} (fun s => decide (s.psq.state = .restarting) && s.reached s.psq.pulse Config.pulseUs)
    State.pulseEnd

/-- OFF_TIMER_EXPIRY (R81). -/
def execOffTimerExpiry (dt : Nat) (s : State) : Result :=
  s.commandIf dt {} (fun s => decide (s.psq.state = .cycling) && s.ended s.psq.offTimer) State.enterHeating

/-- Whether SHUTDOWN's delay runs and has reached its length (R83). -/
def State.delayEnded (s : State) : Bool :=
  match s.psq.delay with
  | .running c => decide (s.psq.state = .shutdown) && s.ended (some c)
  | .stopped | .waiting _ => false

/-- DELAY_TIMER_EXPIRY (R83). -/
def execDelayTimerExpiry (dt : Nat) (s : State) : Result := s.commandIf dt {} State.delayEnded State.endShutdown

/-- RETRY_TIMER_EXPIRY (R89). -/
def execRetryTimerExpiry (dt : Nat) (s : State) : Result := s.commandIf dt {} State.retryDue State.enterHeating

/-- BOOT_DEADLINE_EXPIRY (R99). -/
def execBootDeadlineExpiry (now : ExpiryTime) (s : State) : Result :=
  s.live now.dt fun s =>
    if s.hbw.phase = .boot ∧ s.ended s.hbw.boot = true then s.failWith .bootTimeout now.between else s

/-- The start of a grace period (R100, R117): WATCH_WARN is created and WARN raised. -/
def State.graceStart (s : State) : State :=
  let s1 := State.toWarned { s with hbw := { s.hbw with
    phase := .grace, watch := none, grace := some (s.countdown (secondsUs s.graceInForce)) } }
  State.raiseAttached noticeWarn
    (s1.createReport { kind := .watchWarn, source := 0, detail := s.hbw.source.code, value := s.graceInForce })

/-- A watch expiry (R100): a grace above 0 s starts; a grace of 0 s is a failure at once. -/
def State.watchExpiry (between : Option IntakeReach) (s : State) : State :=
  if s.graceInForce = 0 then s.failWith .watchExpired between else State.act {} State.graceStart s

/-- WATCH_TIMER_EXPIRY (R100). -/
def execWatchTimerExpiry (now : ExpiryTime) (s : State) : Result :=
  s.live now.dt fun s => if s.hbw.phase = .watch ∧ s.ended s.hbw.watch = true then s.watchExpiry now.between else s

/-- GRACE_TIMER_EXPIRY (R101). -/
def execGraceTimerExpiry (now : ExpiryTime) (s : State) : Result :=
  s.live now.dt fun s =>
    if s.hbw.phase = .grace ∧ s.ended s.hbw.grace = true then s.failWith .watchExpired now.between else s

end Sys2Proof.Machine
end

