-- ==== Sys2Proof/Machine/Dispatch.lean ====
section
/-! DEFINITION. The command's effect: one arm per constructor of `Instr`, each one call of its meaning. -/

namespace Sys2Proof.Machine

/-- A command's effect on everything but the queue. -/
def exec (i : Instr) (s : State) : Host.Outcome State Fault Refusal :=
  match i with
  | .supplyReset dt vddMv => Sys2Proof.Machine.execSupplyReset dt vddMv s
  | .pinReset dt lowNs => Sys2Proof.Machine.execPinReset dt lowNs s
  | .resetEnd dt => Sys2Proof.Machine.execResetEnd dt s
  | .startUpLoad dt image => Sys2Proof.Machine.execStartUpLoad dt image s
  | .eepromAckTimeout now word => Sys2Proof.Machine.execEepromAckTimeout now word s
  | .controlPeriod dt ms turn => Sys2Proof.Machine.execControlPeriod dt ms turn s
  | .uptimeTick dt => Sys2Proof.Machine.execUptimeTick dt s
  | .tachEdge dt fan => Sys2Proof.Machine.execTachEdge dt fan s
  | .tachOverrun dt fan => Sys2Proof.Machine.execTachOverrun dt fan s
  | .hostPgChange dt level => Sys2Proof.Machine.execHostPgChange dt level s
  | .pgDeglitchExpiry dt => Sys2Proof.Machine.execPgDeglitchExpiry dt s
  | .settleTimerExpiry dt => Sys2Proof.Machine.execSettleTimerExpiry dt s
  | .powerGoodTimerExpiry dt => Sys2Proof.Machine.execPowerGoodTimerExpiry dt s
  | .pulseTimerExpiry dt => Sys2Proof.Machine.execPulseTimerExpiry dt s
  | .offTimerExpiry dt => Sys2Proof.Machine.execOffTimerExpiry dt s
  | .delayTimerExpiry dt => Sys2Proof.Machine.execDelayTimerExpiry dt s
  | .retryTimerExpiry dt => Sys2Proof.Machine.execRetryTimerExpiry dt s
  | .bootDeadlineExpiry now => Sys2Proof.Machine.execBootDeadlineExpiry now s
  | .watchTimerExpiry now => Sys2Proof.Machine.execWatchTimerExpiry now s
  | .graceTimerExpiry now => Sys2Proof.Machine.execGraceTimerExpiry now s
  | .windowLowHalfWrite dt word half => Sys2Proof.Machine.execWindowLowHalfWrite dt word half s
  | .windowHighHalfWrite dt word half => Sys2Proof.Machine.execWindowHighHalfWrite dt word half s
  | .windowLowHalfRead dt word => Sys2Proof.Machine.execWindowLowHalfRead dt word s
  | .windowHighHalfRead dt word => Sys2Proof.Machine.execWindowHighHalfRead dt word s
  | .attach dt => Sys2Proof.Machine.execAttach dt s
  | .detach dt => Sys2Proof.Machine.execDetach dt s
  | .orderWriteIndex dt value => Sys2Proof.Machine.execOrderWriteIndex dt value s
  | .reportReadIndex dt value => Sys2Proof.Machine.execReportReadIndex dt value s
  | .heartbeat dt value => Sys2Proof.Machine.execHeartbeat dt value s
  | .nudge now value => Sys2Proof.Machine.execNudge now value s
  | .notice dt value => Sys2Proof.Machine.execNotice dt value s
  | .noticeEnable dt value => Sys2Proof.Machine.execNoticeEnable dt value s
  | .registerWriteIgnored dt value => Sys2Proof.Machine.execRegisterWriteIgnored dt value s
  | .intakePollTimerExpiry now => Sys2Proof.Machine.execIntakePollTimerExpiry now s
  | .noOp dt phase => Sys2Proof.Machine.execNoOp dt phase s
  | .readSetting dt phase => Sys2Proof.Machine.execReadSetting dt phase s
  | .writeSetting dt phase => Sys2Proof.Machine.execWriteSetting dt phase s
  | .storeSettings dt phase => Sys2Proof.Machine.execStoreSettings dt phase s
  | .storeSettingsEnd now result => Sys2Proof.Machine.execStoreSettingsEnd now result s
  | .storeTimeout now word => Sys2Proof.Machine.execStoreTimeout now word s
  | .restoreDefaults dt phase => Sys2Proof.Machine.execRestoreDefaults dt phase s
  | .snapshot dt phase => Sys2Proof.Machine.execSnapshot dt phase s
  | .armWatch dt phase => Sys2Proof.Machine.execArmWatch dt phase s
  | .disarmWatch dt phase => Sys2Proof.Machine.execDisarmWatch dt phase s
  | .requestRestart dt phase => Sys2Proof.Machine.execRequestRestart dt phase s
  | .requestStandby dt phase => Sys2Proof.Machine.execRequestStandby dt phase s
  | .clearHistory dt phase => Sys2Proof.Machine.execClearHistory dt phase s
  | .loadKeymap dt phase => Sys2Proof.Machine.execLoadKeymap dt phase s
  | .unmaskKey dt phase => Sys2Proof.Machine.execUnmaskKey dt phase s
  | .resetFilter dt phase => Sys2Proof.Machine.execResetFilter dt phase s
  | .slowScan dt raw => Sys2Proof.Machine.execSlowScan dt raw s
  | .activeScan dt raw => Sys2Proof.Machine.execActiveScan dt raw s
  | .activityTimerExpiry dt => Sys2Proof.Machine.execActivityTimerExpiry dt s
  | .repeatDelay dt pos => Sys2Proof.Machine.execRepeatDelay dt pos s
  | .repeatInterval dt pos => Sys2Proof.Machine.execRepeatInterval dt pos s
  | .stuckTime dt pos => Sys2Proof.Machine.execStuckTime dt pos s
  | .chatterQuietTime dt pos => Sys2Proof.Machine.execChatterQuietTime dt pos s
  | .chatterWindowRestart dt => Sys2Proof.Machine.execChatterWindowRestart dt s
  | .chordFire dt => Sys2Proof.Machine.execChordFire dt s
  | .serviceWindowClose dt => Sys2Proof.Machine.execServiceWindowClose dt s
  | .operatorRestart now pos => Sys2Proof.Machine.execOperatorRestart now pos s
  | .frameStart dt => Sys2Proof.Machine.execFrameStart dt s
  | .groupSlot dt => Sys2Proof.Machine.execGroupSlot dt s
  | .lampTestExpiry dt => Sys2Proof.Machine.execLampTestExpiry dt s
  | .heaterOnTimeEnd dt zone => Sys2Proof.Machine.execHeaterOnTimeEnd dt zone s

end Sys2Proof.Machine
end

