-- ==== Sys2Proof/Safety.lean ====
section
/-! DEFINITION. The terms in which statements speak of steps: what a step left as it was, which bytes of the window it kept, a
report given, an order offered, taken and answered; and the invariants that every step keeps. -/

namespace Sys2Proof.Machine

/-! ## Commands -/

/-- The time operand of a command. -/
def timePassed : Instr → Nat
  | .supplyReset dt _ => dt
  | .pinReset dt _ => dt
  | .resetEnd dt => dt
  | .startUpLoad dt _ => dt
  | .eepromAckTimeout now _ => now.dt
  | .controlPeriod dt _ _ => dt
  | .uptimeTick dt => dt
  | .tachEdge dt _ => dt
  | .tachOverrun dt _ => dt
  | .hostPgChange dt _ => dt
  | .pgDeglitchExpiry dt => dt
  | .settleTimerExpiry dt => dt
  | .powerGoodTimerExpiry dt => dt
  | .pulseTimerExpiry dt => dt
  | .offTimerExpiry dt => dt
  | .delayTimerExpiry dt => dt
  | .retryTimerExpiry dt => dt
  | .bootDeadlineExpiry now => now.dt
  | .watchTimerExpiry now => now.dt
  | .graceTimerExpiry now => now.dt
  | .windowLowHalfWrite dt _ _ => dt
  | .windowHighHalfWrite dt _ _ => dt
  | .windowLowHalfRead dt _ => dt
  | .windowHighHalfRead dt _ => dt
  | .attach dt => dt
  | .detach dt => dt
  | .orderWriteIndex dt _ => dt
  | .reportReadIndex dt _ => dt
  | .heartbeat dt _ => dt
  | .nudge now _ => now.dt
  | .notice dt _ => dt
  | .noticeEnable dt _ => dt
  | .registerWriteIgnored dt _ => dt
  | .intakePollTimerExpiry now => now.dt
  | .noOp dt _ => dt
  | .readSetting dt _ => dt
  | .writeSetting dt _ => dt
  | .storeSettings dt _ => dt
  | .storeSettingsEnd now _ => now.dt
  | .storeTimeout now _ => now.dt
  | .restoreDefaults dt _ => dt
  | .snapshot dt _ => dt
  | .armWatch dt _ => dt
  | .disarmWatch dt _ => dt
  | .requestRestart dt _ => dt
  | .requestStandby dt _ => dt
  | .clearHistory dt _ => dt
  | .loadKeymap dt _ => dt
  | .unmaskKey dt _ => dt
  | .resetFilter dt _ => dt
  | .slowScan dt _ => dt
  | .activeScan dt _ => dt
  | .activityTimerExpiry dt => dt
  | .repeatDelay dt _ => dt
  | .repeatInterval dt _ => dt
  | .stuckTime dt _ => dt
  | .chatterQuietTime dt _ => dt
  | .chatterWindowRestart dt => dt
  | .chordFire dt => dt
  | .serviceWindowClose dt => dt
  | .operatorRestart now _ => now.dt
  | .frameStart dt => dt
  | .groupSlot dt => dt
  | .lampTestExpiry dt => dt
  | .heaterOnTimeEnd dt _ => dt

/-- The commands that act on a part held in a reset: the two resets, their end, and the HOST_PG input. -/
def actsInReset : Instr → Bool
  | .supplyReset .. | .pinReset .. | .resetEnd .. | .hostPgChange .. => true
  | _ => false

/-- The command of an order of a kind, in one part of its life. -/
def OrderKind.command (k : OrderKind) (dt : Nat) (p : OrderPhase) : Instr :=
  match k with
  | .noOp => .noOp dt p
  | .readSetting => .readSetting dt p
  | .writeSetting => .writeSetting dt p
  | .storeSettings => .storeSettings dt p
  | .restoreDefaults => .restoreDefaults dt p
  | .snapshot => .snapshot dt p
  | .armWatch => .armWatch dt p
  | .disarmWatch => .disarmWatch dt p
  | .requestRestart => .requestRestart dt p
  | .requestStandby => .requestStandby dt p
  | .clearHistory => .clearHistory dt p
  | .loadKeymap => .loadKeymap dt p
  | .unmaskKey => .unmaskKey dt p
  | .resetFilter => .resetFilter dt p

/-! ## Frames -/

/-- The parts of the state that a frame names. -/
inductive Block where
  | clock | ticks | reset | period | sfe | zc | la | fc | psq | hbw | kps | ind | exc | rpu | sst | window | queue
  deriving DecidableEq, Repr

/-- Whether a block is the same in two states; the window is compared through the read of one byte. -/
def Block.same (b : Block) (s t : State) : Prop :=
  match b with
  | .clock => t.clock = s.clock
  | .ticks => t.tickAt = s.tickAt ∧ t.uptime = s.uptime
  | .reset => t.resetting = s.resetting ∧ t.vddUp = s.vddUp ∧ t.resetCause = s.resetCause
  | .period => t.period = s.period
  | .sfe => t.sfe = s.sfe
  | .zc => t.zc = s.zc
  | .la => t.la = s.la
  | .fc => t.fc = s.fc
  | .psq => t.psq = s.psq
  | .hbw => t.hbw = s.hbw
  | .kps => t.kps = s.kps
  | .ind => t.ind = s.ind
  | .exc => t.exc = s.exc
  | .rpu => t.rpu = s.rpu
  | .sst => t.sst = s.sst
  | .window => ∀ a : Nat, t.mem.byte a = s.mem.byte a
  | .queue => t.pending = s.pending

/-- Every block outside a list is the same in two states. -/
def Unchanged (changed : List Block) (s t : State) : Prop := ∀ b : Block, b ∉ changed → b.same s t

/-- Every byte of the window outside runs of words, each from its first word to one before its last, is the same. -/
def BytesKept (spans : List (Nat × Nat)) (s t : State) : Prop :=
  ∀ a : Nat, (∀ p ∈ spans, a < 4 * p.1 ∨ 4 * p.2 ≤ a) → t.mem.byte a = s.mem.byte a

/-- The anchor words 2 to 13, which EXC rewrites at a change of what they show (R166). -/
def anchorSpan : Nat × Nat := (2, 14)

/-- The supervision section (R181). -/
def supervisionSpan : Nat × Nat := (128, 160)

/-- The panel section (R181). -/
def panelSpan : Nat × Nat := (160, 192)

/-- The history region (R112). -/
def historySpan : Nat × Nat := (192, 256)

/-- The words of the report queue in RPU's view, none while the view is detached (R184). -/
def State.queueSpan (s : State) : Nat × Nat :=
  match s.rpu.view with
  | none => (0, 0)
  | some q => (q.base, q.base + (q.mask + 1) * 4)

/-- RPU's queue, if it has one, lies above the history region. -/
def State.queueAside (s : State) : Prop := ∀ q, s.rpu.view = some q → 256 ≤ q.base

/-- A mirror section rewritten (R167): its count one higher in its first and last words, and between them its owners' values as
the step leaves them. -/
def SectionRewritten (sec : Section) (s t : State) : Prop :=
  t.mem.word sec.first = s.mem.word sec.first + 1 ∧ t.mem.word (sec.first + sec.length - 1) = s.mem.word sec.first + 1
  ∧ t.mem.wordsFrom (sec.first + 1) (sec.length - 2) = t.sectionBody sec

/-- A mirror section left as it was. -/
def SectionKept (sec : Section) (s t : State) : Prop :=
  ∀ w : Nat, sec.first ≤ w → w < sec.first + sec.length → t.mem.word w = s.mem.word w

/-- PSQ's and HBW's fields of the supervision section after one effect (R92, R118): rewritten where one of PSQ's changed, HBW
changed, or the window or the grace in force did, kept where none did. -/
def SupervisionFollows (s t : State) : Prop :=
  (t.psq.state ≠ s.psq.state ∨ t.psq.reason ≠ s.psq.reason ∨ t.psq.target ≠ s.psq.target ∨ t.psq.stamp ≠ s.psq.stamp
    ∨ t.psq.mainEn ≠ s.psq.mainEn ∨ t.psq.hostReset ≠ s.psq.hostReset ∨ t.psq.pgSeen ≠ s.psq.pgSeen ∨ t.hbw ≠ s.hbw
    ∨ t.windowInForce ≠ s.windowInForce ∨ t.graceInForce ≠ s.graceInForce →
    SectionRewritten .supervision s t)
  ∧ (t.psq = s.psq → t.hbw = s.hbw → t.windowInForce = s.windowInForce → t.graceInForce = s.graceInForce →
    SectionKept .supervision s t)

/-- KPS's fields of the panel section after one effect (R149): rewritten where the mode, the chord state, the service window or a
key's debounced state, mask or must-see-UP flag changed, kept where none did. -/
def PanelFollows (s t : State) : Prop :=
  let kept (p : Position) : Prop :=
    (t.key p).deb = (s.key p).deb ∧ (t.key p).mask = (s.key p).mask ∧ (t.key p).mustUp = (s.key p).mustUp
  let same : Prop :=
    t.kps.mode = s.kps.mode ∧ t.kps.chord = s.kps.chord ∧ t.kps.window = s.kps.window ∧ ∀ p : Position, kept p
  (same → SectionKept .panel s t) ∧ (¬ same → SectionRewritten .panel s t)

/-- The mirror after one effect, with RPU's queue above it: the two sections that follow changes, and the climate section, which
control periods alone rewrite (R27). -/
def MirrorFollows (s t : State) : Prop :=
  s.queueAside → SupervisionFollows s t ∧ PanelFollows s t ∧ SectionKept .climate s t

/-! ## Reports -/

/-- The report that a block's hand-over becomes (R182): stamped with the uptime, numbered one above the creation count. -/
def State.reportOf (b : ReportBody) (s : State) : Report :=
  { kind := b.kind, source := b.source, detail := b.detail, value := b.value, stamp := s.uptime, number := s.rpu.created + 1 }

/-- One report given (R182, R184, R185): to a view that is detached, or whose queue has no room, it joins the holding list, a
full list giving up what it gives up; with a list that is empty, no discards and a queue with room in the host area it is
written into the queue at once. -/
def ReportGiven (b : ReportBody) (s t : State) : Prop :=
  let r := s.reportOf b
  (s.rpu.view = none → s.rpu.holding.length < 16 → s.rpu.discards ≤ 65535 →
    t.rpu = { s.rpu with holding := s.rpu.holding ++ [r], created := s.rpu.created + 1 })
  ∧ ((∀ q, s.rpu.view = some q → q.mask + 1 ≤ (s.rpu.writeIndex - s.reportRead).toNat) →
    t.rpu.holding = (takeIn s.rpu.holding r).1
    ∧ t.rpu.discards = min 65535 (s.rpu.discards + (takeIn s.rpu.holding r).2)
    ∧ t.rpu.created = s.rpu.created + 1 ∧ t.rpu.writeIndex = s.rpu.writeIndex ∧ t.rpu.view = s.rpu.view)
  ∧ ∀ q, s.rpu.view = some q → s.rpu.holding = [] → s.rpu.discards = 0 →
    (s.rpu.writeIndex - s.reportRead).toNat < q.mask + 1 → 256 ≤ q.base → q.base + (q.mask + 1) * 4 ≤ 2048 →
    t.rpu.view = some q ∧ t.rpu.holding = [] ∧ t.rpu.discards = 0 ∧ t.rpu.created = s.rpu.created + 1
    ∧ t.rpu.writeIndex = s.rpu.writeIndex + 1
    ∧ (s.exc.state = .attached → t.rpu.pending.getLsbD 1 = true)
    ∧ t.mem.wordsFrom (q.base + (s.rpu.writeIndex.toNat &&& q.mask) * 4) 4 = r.words

/-- A report queue as an attach accepts it (R168). -/
def QueueView.ok (q : QueueView) : Prop :=
  q.mask + 1 ∈ [4, 8, 16, 32, 64, 128, 256] ∧ 256 ≤ q.base ∧ q.base + (q.mask + 1) * 4 ≤ 2048

/-- The reports that hand-overs in a row become (R182): stamped with the uptime, numbered one after the other. -/
def State.reportsOf (bs : List ReportBody) (s : State) : List Report :=
  bs.zipIdx.map fun p => { s.reportOf p.1 with number := s.rpu.created + BitVec.ofNat 32 (p.2 + 1) }

/-- RPU after reports that joined the holding list one after the other, a full list giving up what it gives up (R185). -/
def ReportUnit.hold (rs : List Report) (u : ReportUnit) : ReportUnit :=
  rs.foldl (fun u r =>
    { u with
      holding := (takeIn u.holding r).1, discards := min 65535 (u.discards + (takeIn u.holding r).2)
      created := r.number }) u

/-- Reports given one after the other (R182, R184, R185): RPU and the words from 256 on are as their creations leave them. Without
room each joins the holding list in its turn, a full list giving up what it gives up; with a list that is empty, no discards and
room for all, they stand in the queue's next slots. -/
def ReportsGiven (bs : List ReportBody) (s t : State) : Prop :=
  let rs := s.reportsOf bs
  let used := (s.rpu.writeIndex - s.reportRead).toNat
  t.rpu = (s.createReports bs).rpu ∧ (∀ w : Nat, 256 ≤ w → t.mem.word w = (s.createReports bs).mem.word w)
  ∧ ((∀ q, s.rpu.view = some q → q.mask + 1 ≤ used) → t.rpu = s.rpu.hold rs)
  ∧ ∀ q, s.rpu.view = some q → q.ok → s.rpu.holding = [] → s.rpu.discards = 0 → used + bs.length ≤ q.mask + 1 →
    t.rpu.view = some q ∧ t.rpu.holding = [] ∧ t.rpu.discards = 0
    ∧ t.rpu.created = s.rpu.created + BitVec.ofNat 32 bs.length
    ∧ t.rpu.writeIndex = s.rpu.writeIndex + BitVec.ofNat 16 bs.length
    ∧ (s.exc.state = .attached → bs ≠ [] → t.rpu.pending.getLsbD 1 = true)
    ∧ ∀ (i : Nat) (h : i < rs.length),
      t.mem.wordsFrom (q.base + ((s.rpu.writeIndex + BitVec.ofNat 16 i).toNat &&& q.mask) * 4) 4 = rs[i].words

/-- The OVERFLOW that a drain can write (R186). -/
def State.overflow (s : State) : Report := s.reportOf { kind := .overflow, source := 0, detail := 0, value := s.rpu.discards }

/-- A drain of an attached exchange into the queue of a view, from a write index and a read index (R186, R184): as many held
reports as there is room for, in their order, then OVERFLOW where the list is empty, reports were discarded and there is room;
REPORT is raised where anything was written. -/
def Drained (q : QueueView) (write read : BitVec 16) (s t : State) : Prop :=
  let room := q.mask + 1 - (write - read).toNat
  let lost : Bool := decide (s.rpu.holding.length < room) && decide (0 < s.rpu.discards)
  let written : List Report := s.rpu.holding.take room ++ (if lost then [s.overflow] else [])
  t.rpu = { s.rpu with
    holding := s.rpu.holding.drop room
    discards := if lost then 0 else s.rpu.discards
    created := if lost then s.rpu.created + 1 else s.rpu.created
    writeIndex := write + BitVec.ofNat 16 written.length
    view := some q
    pending := if written.isEmpty then s.rpu.pending else s.rpu.pending ||| 2#4
    attn := if written.isEmpty then s.rpu.attn else decide ((s.rpu.pending ||| 2#4) &&& s.exc.enable ≠ 0#4) }
  ∧ ∀ (i : Nat) (h : i < written.length),
    t.mem.wordsFrom (q.base + ((write + BitVec.ofNat 16 i).toNat &&& q.mask) * 4) 4 = written[i].words

/-- A KEY_DOWN that stands in a list before `rest` has its press closed there (R185): the next key report of its position is a
KEY_UP. -/
def pressClosed (d : Report) (rest : List Report) : Prop :=
  ∃ (mid back : List Report) (u : Report), rest = mid ++ u :: back ∧ u.kind = .keyUp ∧ u.source = d.source
    ∧ ∀ y ∈ mid, y.kind.isKey = true → y.source ≠ d.source

/-! ## The reports of a control period -/

/-- The warm-start check of a period that leaves the channels `t.sfe` (R22). -/
def warmAt (s t : State) : Bool :=
  s.zc.firstPeriod && decide (t.sfe[4].status = .good) && t.sfe[4].filled && decide (s.setting 2 ≤ t.sfe[4].filtered)

/-- The ZONE_SENSOR reports of a control period (R6): a channel that fails at its third bad measurement, or recovers; in ascending
channel number (the model's order: log 42). -/
def sensorReports (ms : Vector Measurement 6) (s t : State) : List ReportBody :=
  (List.finRange 6).filterMap fun n =>
    let c : Channel := s.sfe[n]
    let d : Channel := t.sfe[n]
    if c.status ≠ .failed ∧ d.status = .failed ∨ c.filled = false ∧ c.bad = 2 ∧ d.bad = 3 then
      some { kind := .zoneSensor, source := n.val, detail := 1, value := if ms[n] = .lowRail then 1 else 2 }
    else if c.status = .failed ∧ d.status = .good ∧ (c.filled = true ∨ 3 ≤ c.bad) then
      some { kind := .zoneSensor, source := n.val, detail := 0, value := d.filtered }
    else none

/-- The reports of one zone in a control period (R26), in the order of the steps of R13: warm start (its value: log 13), trip
entry or exit, readiness by soak or by timed release but not by resumption, HEAT_SLOW. -/
def zoneReports (n : Fin 4) (s t : State) : List ReportBody :=
  let y := s.zc.zones[n]
  let z := t.zc.zones[n]
  let found : ZoneState := if warmAt s t then .ready else y.state
  let report (kind : ReportKind) (d : Nat) (v : Option Int) : ReportBody :=
    { kind := kind, source := n.val, detail := d, value := v.getD (-32768) }
  (if warmAt s t then [report .zoneReady 2 y.used] else [])
  ++ (if found ≠ .tripped ∧ z.state = .tripped then [report .zoneTrip 1 z.used]
      else if found = .tripped ∧ z.state ≠ .tripped then [report .zoneTrip 0 z.used] else [])
  ++ (if z.state = .ready ∧ found ≠ .ready ∧ ¬ (found = .tripped ∧ y.wasReady = true) then
        [report .zoneReady (if z.used = none then 1 else 0) z.used] else [])
  ++ (if z.heatSlow = true ∧ y.heatSlow = false then [report .heatSlow 0 z.used] else [])

/-- FAN_FAULT for a fan that changed state, F0 before F1, then FILTER where the flag was set (R60, R62). -/
def fanReports (s t : State) : List ReportBody :=
  ((List.finRange 2).filterMap fun n =>
    if t.fc.fans[n].failed = s.fc.fans[n].failed then none
    else some { kind := .fanFault, source := n.val, detail := if t.fc.fans[n].failed then 1 else 0, value := t.fc.fans[n].speed })
  ++ (if t.fc.filterFlag = true ∧ s.fc.filterFlag = false then
        [{ kind := .filter, source := 0, detail := 1, value := 1000 }] else [])

/-- BUDGET_SHORT where the class-0 short flag was set or cleared (R41, R42). -/
def budgetReports (s t : State) : List ReportBody :=
  if t.la.short0 = s.la.short0 then []
  else if t.la.short0 then [{ kind := .budgetShort, source := 0, detail := 1, value := t.la.shortfall }]
  else [{ kind := .budgetShort, source := 0, detail := 0, value := 0 }]

/-- The reports of a control period that led from `s` to `t`: SFE's, ZC's zone by zone, FC's and LA's (the order between the
blocks is the model's: log 10). -/
def periodReports (ms : Vector Measurement 6) (s t : State) : List ReportBody :=
  sensorReports ms s t ++ (List.finRange 4).flatMap (fun n => zoneReports n s t) ++ fanReports s t ++ budgetReports s t

/-- A control period that can complete no overheat (R24, R25): the dwell count is not the one before the last, or the rail is
off. -/
def State.noOverheatDue (s : State) : Prop := s.zc.dwell ≠ 39 ∨ s.psq.state.railOn = false

/-! ## The exchange -/

/-- The result of an attach on words 33 to 37 as committed: the checks of R168 in their order. -/
def State.attachVerdict (s : State) : AttachResult :=
  let sizes : List Nat := [4, 8, 16, 32, 64, 128, 256]
  let ob := (s.mem.word 34).toNat
  let os := (s.mem.word 35).toNat + 1
  let rb := (s.mem.word 36).toNat
  let rs := (s.mem.word 37).toNat + 1
  if s.mem.word 33 ≠ 1#32 then .rev
  else if os ∉ sizes then .orderSize
  else if rs ∉ sizes then .reportSize
  else if ob < 256 ∨ ob % (os * 8) ≠ 0 ∨ 2048 < ob + os * 8 then .orderPlace
  else if rb < 256 ∨ rb % (rs * 4) ≠ 0 ∨ 2048 < rb + rs * 4 then .reportPlace
  else if ob < rb + rs * 4 ∧ rb < ob + os * 8 then .overlap
  else .ok

/-- The low half that a host's high-half write to a word commits with (R162). -/
def State.lowHalfFor (w : WordAddr) (s : State) : Half :=
  match s.exc.staging with
  | some l => if l.word = w then l.half else (s.mem.word w.toNat).extractLsb' 0 16
  | none => (s.mem.word w.toNat).extractLsb' 0 16

/-- A commit of a word whose effect is on EXC's latch and the word alone: the staging latch is empty, the word is stored. -/
def CommittedOnly (w : Nat) (v : Word) (s t : State) : Prop :=
  t.exc = { s.exc with staging := none } ∧ t.mem.word w = v ∧ Unchanged [.clock, .exc, .window] s t
  ∧ BytesKept [(w, w + 1)] s t

/-! ## Orders -/

/-- The next entry of the order queue can be taken, and holds an order of a kind that passes the checks that every order
passes (R172, R173 checks 1 to 3). -/
def State.offers (k : OrderKind) (r : OrderRecord) (s : State) : Prop :=
  s.resetting = none ∧ s.exc.state = .attached ∧ s.exc.inHand = none ∧ s.exc.readIndex ≠ s.orderWrite
  ∧ s.recordAt s.orderSlot = r ∧ OrderKind.ofCode r.code = some k ∧ r.void = false ∧ r.unusedClear k = true

/-- EXC after a take whose order came to a result, none for a store under way (R172, R173). -/
def State.takenWith (r : OrderRecord) (res : Option OrderResult) (s : State) : Exchange :=
  { s.exc with
    lastOrder := r.code, inHand := some { record := r, entry := s.orderSlot, discard := false, result := res } }

/-- An order taken and refused: EXC holds the refusal, and nothing else has changed but the last order code in the anchor. -/
def RefusedWith (r : OrderRecord) (o : OrderOutcome) (s t : State) : Prop :=
  t.exc = s.takenWith r (some { outcome := o, value := 0#32, detail := 0#32 })
  ∧ Unchanged [.clock, .exc, .window] s t ∧ BytesKept [(13, 14)] s t

/-- A record in an order's entry whose eight words lie in the host area. -/
def entryInHostArea (e : Nat) : Prop := 256 ≤ e ∧ e + 8 ≤ 2048

/-- No owner waits for an order's completion: no decision is held, no delay waits (R174). -/
def State.noOwnerWaits (s : State) : Prop := s.psq.held = none ∧ ∀ n : Nat, s.psq.delay ≠ .waiting n

/-- An order in hand whose outcome is to be written, after which the order queue is empty (R174). -/
def State.answers (h : OrderInHand) (s : State) : Prop :=
  s.resetting = none ∧ s.exc.state = .attached ∧ s.exc.inHand = some h ∧ h.discard = false ∧ entryInHostArea h.entry
  ∧ s.exc.readIndex + 1 = s.orderWrite

/-- The entry of a completed order (R174): the result words and word 0. -/
def AnsweredAt (h : OrderInHand) (res : OrderResult) (t : State) : Prop :=
  t.mem.word (h.entry + 6) = res.value ∧ t.mem.word (h.entry + 7) = res.detail
  ∧ t.mem.word h.entry = h.record.answer res.outcome

/-- A written completion with which no owner acts (R174): the entry answered, the read index advanced, DONE raised, the intake
IDLE, and nothing else changed. -/
def AnsweredOnly (h : OrderInHand) (res : OrderResult) (s t : State) : Prop :=
  AnsweredAt h res t
  ∧ t.exc = { s.exc with readIndex := s.exc.readIndex + 1, inHand := none }
  ∧ t.rpu = { s.rpu with
      pending := s.rpu.pending ||| 1#4, attn := decide ((s.rpu.pending ||| 1#4) &&& s.exc.enable ≠ 0#4) }
  ∧ BytesKept [(6, 7), (h.entry, h.entry + 1), (h.entry + 6, h.entry + 8)] s t

/-- An intake trigger that finds no order to take (R172): DETACHED, an order in hand, or an empty queue. -/
def State.nothingToTake (s : State) : Prop :=
  s.exc.state = .detached ∨ s.exc.inHand ≠ none ∨ s.exc.readIndex = s.orderWrite

/-! ## The allocation -/

/-- The request power of the loads whose class passes a test (R34). -/
def Allocator.powerOf (p : Nat → Bool) (a : Allocator) : Nat := (a.loads.toList.map fun l => if p l.cls then l.power else 0).sum

/-! ## Keys -/

/-- Whether a timer runs and has run for a time in µs by a moment. -/
def elapsedBy (now : Nat) (t : Timer) (us : Nat) : Bool :=
  match t with
  | none => false
  | some t0 => decide (t0 + us ≤ now)

/-- What KPS hands over for a report of one key (R132). -/
def State.keyBody (kind : ReportKind) (p : Position) (d : Nat) (s : State) : ReportBody :=
  { kind := kind, source := p.val, detail := d, value := (s.entry p).code }

/-- A used position that reads DOWN in a scan. -/
def State.readsDown (raw : BitVec 48) (s : State) (p : Position) : Prop := (s.entry p).used = true ∧ raw.getLsbD p.val = true

/-- Whether the ghost rule holds the debounce of a position at a scan (R128): it is debounced UP, and four used positions at the
crossings of its column and another with its row and another all read DOWN. -/
def State.heldByGhost (raw : BitVec 48) (s : State) (p : Position) : Prop :=
  (s.key p).deb = false ∧ s.readsDown raw p ∧ ∃ q r d : Position,
    q.val / 6 ≠ p.val / 6 ∧ q.val % 6 = p.val % 6 ∧ r.val / 6 = p.val / 6 ∧ r.val % 6 ≠ p.val % 6
    ∧ d.val / 6 = q.val / 6 ∧ d.val % 6 = r.val % 6 ∧ s.readsDown raw q ∧ s.readsDown raw r ∧ s.readsDown raw d

/-- A used chord member (R140, R142). -/
abbrev State.isMember (s : State) (p : Position) : Prop := (s.entry p).used = true ∧ (s.entry p).chord = true

/-- The chord condition (R140): some used, unmasked member, and each of them debounced DOWN. -/
abbrev State.chordHeld (s : State) : Prop :=
  (∃ p : Position, s.isMember p ∧ (s.key p).mask = .none)
  ∧ ∀ p : Position, s.isMember p → (s.key p).mask = .none → (s.key p).deb = true

/-- The chord after masks were set or released, by whether one of them was a used member's (R140): a fired chord stays, else a
change of the qualifying set ends a hold, and a new one starts where the condition holds for the new set. -/
def ChordExamined (member : Prop) (s t : State) : Prop :=
  (s.kps.chord = .fired ∨ ¬ member → t.kps.chord = s.kps.chord ∧ t.kps.chordTimer = s.kps.chordTimer)
  ∧ (s.kps.chord ≠ .fired → member →
    (t.kps.chord, t.kps.chordTimer) = if t.chordHeld then (ChordState.holding, some t.clock) else (.idle, none))

/-- A key's dynamic part after its entry is replaced (R146). -/
def Key.afterReplacement (k : Key) : Key :=
  { raw := k.raw, deb := false, count := 0, mustUp := k.mustUp || k.deb, hold := none, repeatTimer := none, repeatNo := 0,
    done := false, transitions := 0, quiet := none, mask := .none }

/-! ## The restart ladder -/

/-- The failures that count (R106): AUTOMATIC records, counted flag set, younger than the restart window. -/
def State.countedFailures (s : State) : Nat :=
  s.hbw.history.countP fun r =>
    decide (r.kind = .automatic ∧ r.counted = true ∧ (s.uptime - r.stamp).toNat < (s.setting 68).toNat * 100)

/-- The list after the ageing of a control period (R111): a counted flag whose record's age has reached the restart window is
cleared. -/
def State.agedHistory (s : State) : List HistoryRecord :=
  s.hbw.history.map fun r =>
    { r with counted := r.counted && decide ((s.uptime - r.stamp).toNat < (s.setting 68).toNat * 100) }

/-- The decision of R106 on an AUTOMATIC failure; `pg` for the causes PG_TIMEOUT and PG_LOST. -/
def State.ladder (pg : Bool) (s : State) : Action :=
  if (s.countedFailures : Int) < s.setting 69 ∧ pg = false then .warm
  else if (s.countedFailures : Int) < s.setting 70 then .cold
  else .holdoff

/-- The record of a failure that HBW takes now (R109), with the action decided. -/
def State.failureRecord (c : Cause) (k : CauseKind) (a : Action) (s : State) : HistoryRecord :=
  { sequence := s.hbw.nextSeq, cause := c, kind := k, action := a, counted := decide (k = .automatic), stamp := s.uptime
    z0Temp := s.zc.zones[0].used, heartbeat := s.hbw.lastValue
    heartbeatAge := match s.hbw.lastStamp with
      | none => 0xFFFFFFFF#32
      | some t => s.uptime - t
    lastOrder := s.exc.lastOrder, seqState := s.psq.state, attached := decide (s.exc.state = .attached) }

/-- The history region shows the list (R112, R180): eight words a record, the oldest first, zeros after the newest. -/
def HistoryShown (s : State) : Prop :=
  (∀ (i : Nat) (h : i < s.hbw.history.length),
    let r := s.hbw.history[i]
    let w := 192 + 8 * i
    s.mem.word w = BitVec.ofNat 32 (r.sequence % 65536 + r.cause.code * 2 ^ 16 + r.kind.code * 2 ^ 20 + r.action.code * 2 ^ 24
      + (if r.counted = true then 2 ^ 28 else 0))
    ∧ s.mem.word (w + 1) = r.stamp ∧ s.mem.word (w + 2) = BitVec.ofInt 32 (r.z0Temp.getD (-32768))
    ∧ s.mem.word (w + 3) = r.heartbeat ∧ s.mem.word (w + 4) = r.heartbeatAge
    ∧ s.mem.word (w + 5) =
      BitVec.ofNat 32 (r.lastOrder % 256 + r.seqState.code * 2 ^ 8 + (if r.attached = true then 2 ^ 16 else 0))
    ∧ s.mem.word (w + 6) = 0#32 ∧ s.mem.word (w + 7) = 0#32)
  ∧ ∀ w : Nat, 192 + 8 * s.hbw.history.length ≤ w → w < 256 → s.mem.word w = 0#32

/-- A record that the history region holds without loss (R112, R180): every field within its bits, the sequence not 0, and a zone 0
temperature that is not the code of none. -/
def HistoryRecord.storable (r : HistoryRecord) : Prop :=
  0 < r.sequence ∧ r.sequence < 65536 ∧ r.lastOrder < 256
  ∧ ∀ v, r.z0Temp = some v → -2 ^ 31 ≤ v ∧ v < 2 ^ 31 ∧ v ≠ -32768

/-- HBW after a failure that it has taken (R108, R110, R112): the record at the list's tail, a full list having given up its
oldest record that is not AUTOMATIC, or else its oldest; the sequence moved on, the pending boot cause and the last action set,
the watch off, and the region showing the list. -/
def FailureTaken (r : HistoryRecord) (s t : State) : Prop :=
  t.hbw.history.getLast? = some r ∧ (s.hbw.history.length < 8 → t.hbw.history = s.hbw.history ++ [r])
  ∧ (∀ (front back : List HistoryRecord) (x : HistoryRecord), s.hbw.history = front ++ x :: back →
    s.hbw.history.length = 8 → (∀ y ∈ front, y.kind = .automatic) → x.kind ≠ .automatic →
    t.hbw.history = front ++ back ++ [r])
  ∧ (s.hbw.history.length = 8 → (∀ y ∈ s.hbw.history, y.kind = .automatic) → t.hbw.history = s.hbw.history.tail ++ [r])
  ∧ (s.hbw.history.length ≤ 8 → s.queueAside → HistoryShown t)
  ∧ t.hbw.nextSeq = (if s.hbw.nextSeq = 65535 then 1 else s.hbw.nextSeq + 1)
  ∧ t.hbw.pendingBoot = r.sequence ∧ t.hbw.lastAction = some r.action ∧ t.hbw.historyUpdates = s.hbw.historyUpdates + 1
  ∧ t.hbw.phase = .none ∧ t.hbw.boot = none ∧ t.hbw.watch = none ∧ t.hbw.grace = none

/-- HBW's start after a pin reset whose window kept a list (R119): the list read back, its counted flags cleared, and the PIN_RESET
record taken into it, its sequence one after that of the list's newest record, or 1. -/
def HistoryReadBack (s t : State) : Prop :=
  ∀ l : List HistoryRecord, (∀ q ∈ l, q.storable) → l.length ≤ 8 → HistoryShown { s with hbw := { s.hbw with history := l } } →
    ∃ r : HistoryRecord, r.cause = .pinReset
      ∧ r.sequence = (match l.getLast? with
        | none => 1
        | some q => if q.sequence = 65535 then 1 else q.sequence + 1)
      ∧ FailureTaken r
        { s with hbw := { s.hbw with
          history := l.map fun q => { q with counted := false }, nextSeq := r.sequence
          historyUpdates := s.hbw.historyUpdates + 1 } } t

/-- The computer taken down (R78): the exchange DETACHED for HOST_RESTART with any order in hand to be discarded, NOTICE and
NOTICE ENABLE 0, ATTN released, HOST_RESET asserted. -/
def TakenDown (s t : State) : Prop :=
  t.exc.state = .detached ∧ t.exc.reason = .hostRestart ∧ t.exc.enable = 0#4 ∧ t.rpu.pending = 0#4 ∧ t.rpu.attn = false
  ∧ (s.exc.state = .attached → t.rpu.view = none)
  ∧ t.psq.hostReset = true

/-- EXC after PSQ's detach and notice clear (R78, R170): nothing else of it changes, and an order in hand of an attached exchange
is marked to be discarded. -/
def State.detachedForRestart (s : State) : Exchange :=
  { s.exc with
    state := .detached, reason := .hostRestart, enable := 0#4
    inHand := if s.exc.state = .attached then s.exc.inHand.map fun h => { h with discard := true } else s.exc.inHand }

/-- A state with EXC and RPU as PSQ's detach and notice clear leave them (R78, R170, R187). -/
def State.takenDown (s : State) : State :=
  { s with
    exc := s.detachedForRestart
    rpu := { s.rpu with view := if s.exc.state = .attached then none else s.rpu.view, pending := 0#4, attn := false } }

/-- The main-off event at ZC (R23, R79): the overheat dwell 0, each READY zone placed by its last used temperature and by the Tr in
use since the last period (the model's reading: log 16), each TRIPPED zone's readiness forgotten, and nothing else of ZC changed. -/
def MainOffTaken (s t : State) : Prop :=
  t.zc = { s.zc with zones := t.zc.zones, dwell := 0 }
  ∧ ∀ n : Fin 4, t.zc.zones[n] =
    match s.zc.zones[n].state with
    | .ready =>
      { s.zc.zones[n] with
        timed := false
        state := match s.zc.zones[n].used with
          | some v => if s.zc.zones[n].applied.release ≤ v then .soaking else .heating
          | none => .heating }
    | .tripped => { s.zc.zones[n] with wasReady := false }
    | .idle => s.zc.zones[n]
    | .heating => s.zc.zones[n]
    | .soaking => s.zc.zones[n]

/-- PSQ and ZC after a decision carried out on a computer that was up, in POWERING or in RESTARTING (R77, R80, R81, R86, R23). -/
def DecisionCarriedOut (a : Action) (s t : State) : Prop :=
  match a with
  | .warm => t.psq.state = .restarting ∧ t.psq.mainEn = s.psq.mainEn ∧ t.psq.pulse = some t.clock ∧ t.psq.stamp = s.uptime
      ∧ t.zc = s.zc
  | .cold => t.psq.state = .cycling ∧ t.psq.mainEn = false ∧ t.psq.stamp = s.uptime
      ∧ t.psq.offTimer = some { start := t.clock, length := (s.setting 71).toNat * 1000000 } ∧ MainOffTaken s t
  | .holdoff => t.psq.state = .holdoff ∧ t.psq.mainEn = false ∧ t.psq.stamp = s.uptime ∧ t.psq.reason = .escalation
      ∧ t.psq.retry = some t.clock ∧ MainOffTaken s t

/-- The keys whose CHATTER mask a moment in STANDBY or HOLDOFF finds quiet for long enough (R139): used, debounced UP, quiet for a
tenth of setting 85. -/
def State.quietBy (now : Nat) (s : State) (p : Position) : Bool :=
  (s.entry p).used && decide ((s.key p).mask = .chatter ∧ (s.key p).deb = false)
    && elapsedBy now (s.key p).quiet ((s.setting 85).toNat * 100000)

/-- The reports of the masks so released (R139), the positions ascending (the model's order: log 19). -/
def State.quietReports (now : Nat) (s : State) : List ReportBody :=
  ((List.finRange 48).filter (s.quietBy now)).map fun p => s.keyBody .keyUnmasked p 1

/-- KPS at an entry of PSQ into STANDBY or HOLDOFF (R139, R140): each CHATTER mask quiet for long enough released at once, every
other key as it was, the chord examined anew, and the reports counted. -/
def KeysQuieted (s t : State) : Prop :=
  let due := s.quietBy t.clock
  (∀ p : Position, t.key p = if due p = true then { s.key p with mask := .none, transitions := 0 } else s.key p)
  ∧ ChordExamined (∃ p : Position, due p = true ∧ s.isMember p) s t
  ∧ t.kps = { s.kps with
    keys := t.kps.keys, chord := t.kps.chord, chordTimer := t.kps.chordTimer
    reports := s.kps.reports + BitVec.ofNat 32 (s.quietReports t.clock).length }

/-- KPS and RPU after the computer was taken down into STANDBY or HOLDOFF (R78, R139, R187): the reports of the masks released are
created after the detach, and join the holding list. -/
def QuietReleased (s t : State) : Prop :=
  let rs := s.quietReports t.clock
  KeysQuieted s t ∧ t.rpu = (s.takenDown.createReports rs).rpu
  ∧ (s.takenDown.rpu.view = none → t.rpu = s.takenDown.rpu.hold (s.reportsOf rs))

/-- KPS and RPU after a decision carried out: at the entry into HOLDOFF quiet masks are released; at another entry KPS is as it
was, and RPU as the detach and the notice clear leave it. -/
def KeypadFollows (a : Action) (s t : State) : Prop :=
  match a with
  | .warm => t.kps = s.kps ∧ t.rpu = s.takenDown.rpu
  | .cold => t.kps = s.kps ∧ t.rpu = s.takenDown.rpu
  | .holdoff => QuietReleased s t

/-- An AUTOMATIC failure taken and its decision carried out (R105 to R108, R77): the record with the ladder's action, PSQ's
transition with the main-off event, the computer taken down, KPS following, and nothing touched but what the transition reaches. -/
def AutomaticFailure (c : Cause) (pg : Bool) (s t : State) : Prop :=
  FailureTaken (s.failureRecord c .automatic (s.ladder pg)) s t
  ∧ DecisionCarriedOut (s.ladder pg) s t ∧ TakenDown s t ∧ t.exc = s.detachedForRestart ∧ KeypadFollows (s.ladder pg) s t
  ∧ Unchanged [.clock, .psq, .hbw, .exc, .rpu, .zc, .kps, .window] s t
  ∧ BytesKept [anchorSpan, supervisionSpan, panelSpan, historySpan, s.takenDown.queueSpan] s t

/-- PSQ in HEATING after a release (R81, R87, R88, R89): the rail still off, every timer of the states stopped. -/
def State.heatingFrom (s : State) : Sequencer :=
  { s.psq with
    state := .heating, reason := .none, stamp := s.uptime, pgTimer := none, settle := none, pulse := none
    offTimer := none, delay := .stopped, retry := none }

/-- HBW with its watch off (R98). -/
def State.watchStopped (s : State) : HeartbeatWatch :=
  { s.hbw with phase := .none, boot := none, watch := none, grace := none }

/-- The local action of a press (R134): WAKE in STANDBY and LAMP_TEST of a key routed LOCAL or BOTH, else none at the press. -/
def LocalActionTaken (p : Position) (s t : State) : Prop :=
  if (s.entry p).routing ≠ .report ∧ (s.entry p).action = .wake ∧ s.psq.state = .standby then
    t.psq = s.heatingFrom ∧ t.hbw = s.watchStopped ∧ t.ind = s.ind
  else if (s.entry p).routing ≠ .report ∧ (s.entry p).action = .lampTest then
    t.psq = s.psq ∧ t.hbw = s.hbw ∧ t.ind = { s.ind with lampTest := some t.clock }
  else t.psq = s.psq ∧ t.hbw = s.hbw ∧ t.ind = s.ind

/-- The WAKE action of keys pressed afresh (R134, R139, R70): the first of them acts in STANDBY, and none in another state. -/
def WakeTaken (fresh : Position → Prop) (s t : State) : Prop :=
  let woken : Prop :=
    s.psq.state = .standby ∧ ∃ p, fresh p ∧ (s.entry p).routing ≠ .report ∧ (s.entry p).action = .wake
  (woken → t.psq = s.heatingFrom ∧ t.hbw = s.watchStopped) ∧ (¬ woken → t.psq = s.psq ∧ t.hbw = s.hbw)

/-- The LAMP_TEST action of keys pressed afresh (R134, R139). -/
def LampTestTaken (fresh : Position → Prop) (s t : State) : Prop :=
  let asked : Prop := ∃ p, fresh p ∧ (s.entry p).routing ≠ .report ∧ (s.entry p).action = .lampTest
  (asked → t.ind = { s.ind with lampTest := some t.clock }) ∧ (¬ asked → t.ind = s.ind)

/-- The reports of masks released with fresh presses (R139), in ascending position: KEY_UNMASKED with the detail of the release,
then KEY_DOWN with detail 1 for a key that is debounced DOWN and not routed LOCAL. -/
def State.releaseReports (detail : Nat) (released : Position → Bool) (s : State) : List ReportBody :=
  (List.finRange 48).flatMap fun p =>
    if released p then
      s.keyBody .keyUnmasked p detail
        :: (if (s.key p).deb = true ∧ (s.entry p).routing ≠ .localOnly then [s.keyBody .keyDown p 1] else [])
    else []

/-- The reports of the chord's fire (R141 steps 2 and 4). -/
def State.fireReports (s : State) : List ReportBody :=
  { kind := .service, source := 0, detail := if s.kps.window.isSome = true then 1 else 0, value := s.setting 87 }
    :: s.releaseReports 3 (fun p => decide ((s.key p).mask = .chatter))

/-- KPS after the chord's fire (R141, R139): FIRED, the service window open from now, every CHATTER mask released, a released key
that is debounced DOWN pressed afresh, every other key as it was, and the reports counted. -/
def WindowOpened (s t : State) : Prop :=
  t.kps = { s.kps with
    chord := .fired, chordTimer := none, window := some t.clock, keys := t.kps.keys
    reports := s.kps.reports + BitVec.ofNat 32 s.fireReports.length }
  ∧ (∀ p : Position, (s.key p).mask = .chatter →
    (t.key p).mask = .none ∧ (t.key p).transitions = 0 ∧ (t.key p).deb = (s.key p).deb
    ∧ ((s.key p).deb = true → (t.key p).hold = some t.clock ∧ (t.key p).repeatNo = 0 ∧ (t.key p).done = false))

/-- The chord's fire (R141, R139, R88, R70) where no operator restart follows: the window opened and the reports given; an escalation
holdoff released with the service floor; elsewhere PSQ moved by the WAKE of a fresh press alone, in STANDBY too. -/
def ChordFired (s t : State) : Prop :=
  let fresh (p : Position) : Prop := (s.key p).mask = .chatter ∧ (s.key p).deb = true
  WindowOpened s t ∧ (∀ p : Position, (s.key p).mask ≠ .chatter → t.key p = s.key p)
  ∧ ReportsGiven s.fireReports s t
  ∧ (s.psq.state = .holdoff → s.psq.reason = .escalation →
    t.psq = s.heatingFrom
    ∧ t.hbw = { s.watchStopped with
      history := s.hbw.history.map fun r => { r with counted := false }, historyUpdates := s.hbw.historyUpdates + 1 })
  ∧ (s.psq.state ≠ .holdoff ∨ s.psq.reason ≠ .escalation → WakeTaken fresh s t)
  ∧ LampTestTaken fresh s t

/-- Whether a key's OPERATOR_RESTART is ready at a moment under a chord hold in seconds: every condition of R135 but the window. -/
def State.operatorReady (now hold : Nat) (s : State) (p : Position) : Bool :=
  (s.entry p).used && decide ((s.entry p).action = .operatorRestart ∧ (s.entry p).routing ≠ .report ∧ (s.key p).mask = .none)
    && elapsedBy now (s.key p).hold (hold * 1000000) && s.psq.state.up && !(s.key p).done

/-- A key that restarts nothing at a moment: it has another action, or is not ready and, if a release of its CHATTER mask comes
first, is not made ready by it, since its hold timer starts anew or does not run. -/
abbrev State.operatorIdle (now hold : Nat) (s : State) (p : Position) : Prop :=
  (s.entry p).action ≠ .operatorRestart
    ∨ 0 < hold ∧ s.operatorReady now hold p = false
      ∧ ((s.key p).mask = .chatter → (s.key p).deb = true ∨ (s.key p).hold = none)

/-- The first of the keys whose OPERATOR_RESTART is ready (the model's order of positions: log 35). -/
abbrev State.operatorFirst (now hold : Nat) (s : State) (p : Position) : Prop :=
  s.operatorReady now hold p = true ∧ ∀ q : Position, q < p → s.operatorIdle now hold q

/-- The computer restarted by an OPERATOR failure that HBW took at once (R115, R107, R77), `last` the code of the last order. -/
def OperatorRestarted (last : Nat) (s t : State) : Prop :=
  FailureTaken { s.failureRecord .operator .requested .warm with lastOrder := last } s t
  ∧ DecisionCarriedOut .warm s t ∧ TakenDown s t ∧ t.psq.held = none

/-- Keys whose timers act at one moment, in ascending position (the model's order: log 31): each becomes what its rule says and has
its report, and every other key is as it was. -/
def KeysActed (acting : Position → Bool) (becomes : Position → Key) (kind : ReportKind) (detail : Position → Nat) (s t : State) :
    Prop :=
  let ps := (List.finRange 48).filter acting
  (∀ p : Position, t.key p = if acting p = true then becomes p else s.key p)
  ∧ ReportsGiven (ps.map fun p => s.keyBody kind p (detail p)) s t
  ∧ t.kps.reports = s.kps.reports + BitVec.ofNat 32 ps.length

/-- PSQ in a state that HBW's requests lead to (R75): the entry stamp recorded, the outputs as they were. -/
def State.movedTo (st : SeqState) (s : State) : Sequencer :=
  { s.psq with
    state := st, stamp := s.uptime, pgTimer := none, settle := none, pulse := none, offTimer := none, delay := .stopped
    retry := none }

/-- The BOOT report of an entry into BOOTING (R116), from POWERING (detail 0) or RESTARTING (detail 1). -/
def State.bootReport (detail : Nat) (s : State) : ReportBody :=
  { kind := .boot, source := 0, detail := detail, value := s.hbw.pendingBoot }

/-- BOOTING entered (R74, R98, R99, R116): HOST_RESET released, the boot deadline running toward setting 65, and the BOOT report
given, after which the pending boot cause is 0. -/
def BootingEntered (detail : Nat) (s t : State) : Prop :=
  t.psq = { s.movedTo .booting with mainEn := true, hostReset := false }
  ∧ t.hbw = { s.hbw with
      phase := .boot, source := .settings, watch := none, grace := none, pendingBoot := 0
      boot := some { start := t.clock, length := (s.setting 65).toNat * 1000000 } }
  ∧ ReportGiven (s.bootReport detail) s t
  ∧ Unchanged [.clock, .psq, .hbw, .kps, .rpu, .window] s t
  ∧ BytesKept [anchorSpan, supervisionSpan, s.queueSpan] s t

/-- BOOTING entered, and left at once by an OPERATOR restart that waited for the entry (R135, R115, R77, R80): the BOOT report given
before the detach, the record taken in BOOTING, the key's action done, the rail still on and the reset pulse running. -/
def BootingRestarted (detail : Nat) (p : Position) (s t : State) : Prop :=
  let booted := s.createReports [s.bootReport detail]
  FailureTaken { s.failureRecord .operator .requested .warm with seqState := .booting } s t ∧ t.hbw.source = .settings
  ∧ t.psq = { s.movedTo .restarting with mainEn := true, hostReset := true, pulse := some t.clock }
  ∧ t.exc = s.detachedForRestart ∧ t.kps = { s.kps with keys := s.kps.keys.set p { s.key p with done := true } }
  ∧ t.rpu = booted.takenDown.rpu ∧ (∀ w : Nat, 256 ≤ w → t.mem.word w = booted.mem.word w)
  ∧ (s.rpu.view = none → t.rpu = s.takenDown.rpu.hold (s.reportsOf [s.bootReport detail]))
  ∧ Unchanged [.clock, .psq, .hbw, .exc, .rpu, .kps, .window] s t
  ∧ BytesKept [anchorSpan, supervisionSpan, historySpan, s.queueSpan] s t

/-! ## Invariants -/

/-- The window is in its canonical form. -/
def WindowOk (s : State) : Prop := s.mem.wf = true

/-- The supervision half: MAIN_EN and HOST_RESET follow the sequencer state (R67), the exchange is DETACHED while HOST_RESET is
asserted (R78, R168), the watch phase follows the sequencer state (R98), a decision is held only with an order in hand (R77),
and before the start-up load is over PSQ stays in STANDBY with the keypad idle (R66, R122, R165). -/
def SupervisionOk (s : State) : Prop :=
  s.psq.mainEn = s.psq.state.railOn
  ∧ s.psq.hostReset = !(s.psq.state.up || decide (s.psq.state = .shutdown))
  ∧ (s.psq.hostReset = true → s.exc.state = .detached)
  ∧ (s.psq.held.isSome = true → s.psq.state.up = true ∧ s.exc.inHand.isSome = true)
  ∧ (s.sst.store = .loading → s.psq.state = .standby ∧ s.kps = Keypad.reset ∧ s.period = none ∧ s.exc.inHand = none)
  ∧ match s.hbw.phase with
    | .none => s.psq.state.up = true → s.psq.held.isSome = true
    | .boot => s.psq.state = .booting ∧ s.psq.held = none
    | .watch | .disarmed => s.psq.state = .running ∧ s.psq.held = none
    | .grace => s.psq.state = .warned ∧ s.psq.held = none

/-- The exchange: RPU's view is EXC's (R183, R187), an attached layout is one that an attach accepts (R168), the report queue
holds no more than its size (R184), an order in hand whose outcome is to be written lies in the order queue of an attached
exchange (R170, R172), ATTN follows NOTICE and NOTICE ENABLE (R189), and the lists keep their sizes (R110, R185). -/
def ExchangeOk (s : State) : Prop :=
  s.rpu.view = (if s.exc.state = .attached then
      some { base := s.exc.layout.reportBase, mask := s.exc.layout.reportMask } else none)
  ∧ (s.exc.state = .attached → layoutCheck 1#32 s.exc.layout = .ok
      ∧ (s.rpu.writeIndex - s.reportRead).toNat ≤ s.exc.layout.reportMask + 1)
  ∧ (∀ h, s.exc.inHand = some h → h.discard = false → s.exc.state = .attached
      ∧ s.exc.layout.orderBase ≤ h.entry ∧ h.entry + 8 ≤ s.exc.layout.orderBase + (s.exc.layout.orderMask + 1) * 8)
  ∧ s.rpu.attn = decide (s.rpu.pending &&& s.exc.enable ≠ 0#4)
  ∧ s.rpu.holding.length ≤ 16 ∧ s.rpu.discards ≤ 65535 ∧ s.hbw.history.length ≤ 8

/-- The anchor part fields as the window shows them (R166, R179): outside a reset every word of them holds its value, word 10 from
the completion of the start-up load on; a part held in a reset has its load to come. -/
def AnchorOk (s : State) : Prop :=
  (s.resetting ≠ none → s.sst.store = .loading)
  ∧ (s.resetting = none → ∀ w : Nat, w < 32 → w ≠ 10 → s.mem.word w = s.anchorValue w)
  ∧ (s.sst.store ≠ .loading → s.mem.word 10 = s.anchorValue 10)

/-- A table in which every known setting lies in its range, partner bounds and role lamps included, and every unknown number
holds 0 (R190, R192). -/
def TableOk (t : SettingsTable) : Prop :=
  ∀ n : Nat, n < 102 →
    if isKnown n = false then settingAt t n = 0
    else if isRoleLamp n then (0 ≤ settingAt t n ∧ settingAt t n ≤ 15) ∨ settingAt t n = 255
    else (boundsOf t n).1 ≤ settingAt t n ∧ settingAt t n ≤ (boundsOf t n).2

/-- SST's table keeps its ranges. -/
def SettingsOk (s : State) : Prop := TableOk s.sst.table

/-- A value within the range of a measurement (R1). -/
def inMeasuredRange (t : Int) : Prop := -2048 ≤ t ∧ t ≤ 2047

/-- A channel record (R2): counts in range, FAILED while unfilled, history and filtered value measured values (R5). -/
def ChannelOk (c : Channel) : Prop :=
  c.bad ≤ 3 ∧ c.good ≤ 7 ∧ (c.filled = false → c.status = .failed)
  ∧ inMeasuredRange c.h0 ∧ inMeasuredRange c.h1 ∧ inMeasuredRange c.h2 ∧ inMeasuredRange c.h3 ∧ inMeasuredRange c.filtered

/-- A zone record (R11): credit, request, grant and used temperature in range, no more granted than requested (R37). -/
def ZoneOk (z : Zone) : Prop :=
  z.credit ≤ 65535 ∧ z.request ≤ 256 ∧ z.granted ≤ z.request ∧ ∀ v ∈ z.used, inMeasuredRange v

/-- A load record (R28): no more granted than asked for, in W and in duty (R35, R37). -/
def LoadOk (l : Load) : Prop := l.duty ≤ 256 ∧ l.granted ≤ l.duty ∧ l.grant ≤ l.power

/-- The period that a capture holds, read or not. -/
def capturedTime : Capture → Option Nat
  | .none => none
  | .read p => some p
  | .unread p => some p

/-- A fan record (R50): request, grant, capture, reading and speed in range, no more granted than requested (R37), the counts in
range, FAILED exactly while the stall count is 8 (R58, R59). -/
def FanOk (f : Fan) : Prop :=
  f.request ≤ 256 ∧ f.grant ≤ f.request ∧ (∀ p ∈ capturedTime f.capture, 1 ≤ p ∧ p ≤ 65535) ∧ (∀ p ∈ f.reading, 1 ≤ p ∧ p ≤ 65535)
  ∧ f.speed ≤ 30000000 ∧ f.stall ≤ 8 ∧ f.good ≤ 7 ∧ (f.failed = true ↔ f.stall = 8)

/-- The climate half: channels (R2), zones (R11, R14, R37), the overheat dwell (R24), the loads and the total granted (R28, R36),
the fans (R50) and the clog score (R61). -/
def ClimateOk (s : State) : Prop :=
  (∀ n : Fin 6, ChannelOk s.sfe[n]) ∧ (∀ n : Fin 4, ZoneOk s.zc.zones[n]) ∧ (∀ n : Fin 6, LoadOk s.la.loads[n])
  ∧ s.zc.dwell ≤ 40 ∧ s.la.total ≤ s.la.available ∧ s.la.available ≤ s.la.budget
  ∧ (∀ n : Fin 2, FanOk s.fc.fans[n]) ∧ s.fc.clog ≤ 1000

end Sys2Proof.Machine
end

