-- ==== Sys2Proof/Certificates/Slice0/Obligations.lean ====
section
/-! DEFINITION. The statements for the provers. A statement quantifies over every state; `dt` is the time since the command
before, and `s.clock + dt` the moment of the command. -/

open Sys2Proof Sys2Proof.Machine

/-! ## Steps -/

/-- A step takes the command at the front of the queue and runs it with the queue's rest (the model's own queue; log 3). -/
def Obligations.StepRunsTheFrontCommand : Prop :=
  (∀ (c : Instr) (s : State), step (s.enqueueFront c) = exec c s)
  ∧ (∀ (c : Instr) (rest : List Instr) (s : State), s.pending = c :: rest → step s = exec c { s with pending := rest })
  ∧ ∀ s : State, s.pending = [] → step s = .next s

/-- The spec gives every command an effect in every state, so none stops. That the clock moves by the time since the command
before, and that a command leaves the queue alone, is the model's choice (logs 1 and 3). -/
def Obligations.EveryCommandAnswersANextState : Prop :=
  ∀ (c : Instr) (s : State), ∃ t, exec c s = .next t ∧ t.clock = s.clock + timePassed c ∧ t.pending = s.pending

/-! ## Resets and start-up -/

/-- In a reset nothing moves but the clock and the HOST_PG input's level (R198; log 4). -/
def Obligations.OnlyTheClockMovesInReset : Prop :=
  (∀ (c : Instr) (s : State), s.resetting ≠ none → actsInReset c = false →
    exec c s = .next { s with clock := s.clock + timePassed c })
  ∧ ∀ (dt : Nat) (level : Bool) (s : State), s.resetting ≠ none →
    exec (.hostPgChange dt level) s = .next { s with clock := s.clock + dt, psq := { s.psq with hostPg := level } }

/-- The reset values that the chapters' tables give (R2, R11, R28, R50, R66, R94, R121, R122, R152, R165, R183, R191). -/
def Obligations.ResetValuesAreTheTables : Prop :=
  (∀ n : Fin 6, State.reset.sfe[n].status = .failed ∧ State.reset.sfe[n].filled = false ∧ State.reset.sfe[n].bad = 0
    ∧ State.reset.sfe[n].good = 0)
  ∧ (∀ n : Fin 4, State.reset.zc.zones[n].state = .idle ∧ State.reset.zc.zones[n].credit = 0
    ∧ State.reset.zc.zones[n].request = 0 ∧ State.reset.zc.zones[n].granted = 0 ∧ State.reset.zc.zones[n].used = none
    ∧ State.reset.zc.zones[n].wasReady = false ∧ State.reset.zc.zones[n].substitute = false
    ∧ State.reset.zc.zones[n].noTemp = false ∧ State.reset.zc.zones[n].timed = false
    ∧ State.reset.zc.zones[n].heatSlow = false ∧ State.reset.zc.zones[n].heatTime = 0
    ∧ State.reset.zc.heaterOn[n] = false)
  ∧ State.reset.zc.dwell = 0
  ∧ (∀ n : Fin 6, State.reset.la.loads[n] = { duty := 0, cls := 0, rating := 0, power := 0, grant := 0, granted := 0 })
  ∧ State.reset.la.budget = 0 ∧ State.reset.la.reservation = 0 ∧ State.reset.la.applies = false
  ∧ State.reset.la.available = 0 ∧ State.reset.la.shortClass = none ∧ State.reset.la.short0 = false
  ∧ State.reset.la.shortfall = 0 ∧ State.reset.la.total = 0
  ∧ (∀ n : Fin 2, State.reset.fc.fans[n].request = 0 ∧ State.reset.fc.fans[n].grant = 0
    ∧ State.reset.fc.fans[n].forcedTrip = false ∧ State.reset.fc.fans[n].forcedOverheat = false
    ∧ State.reset.fc.fans[n].forcedExhaust = false ∧ State.reset.fc.fans[n].tach = .noEdge
    ∧ State.reset.fc.fans[n].capture = .none ∧ State.reset.fc.fans[n].reading = none ∧ State.reset.fc.fans[n].speed = 0
    ∧ State.reset.fc.fans[n].stall = 0 ∧ State.reset.fc.fans[n].good = 0 ∧ State.reset.fc.fans[n].failed = false)
  ∧ State.reset.fc.clog = 0 ∧ State.reset.fc.filterFlag = false
  ∧ State.reset.psq =
    { state := .standby, reason := .none, target := .standby, pgTimer := none, settle := none,
      pulse := none, offTimer := none, delay := .stopped, retry := none, held := none, stamp := 0#32, pgSeen := false,
      deglitch := none, mainEn := false, hostReset := true, hostPg := State.reset.psq.hostPg }
  ∧ State.reset.hbw =
    { phase := .none, source := .settings, orderWindow := 30, orderGrace := 5, boot := none,
      watch := none, grace := none, lastValue := 0#32, lastStamp := none, count := 0#32, history := [], nextSeq := 1,
      pendingBoot := 0, lastAction := none, historyUpdates := 0#32 }
  ∧ (∀ p : Position, State.reset.key p =
    { raw := false, deb := false, count := 0, mustUp := false, hold := none,
      repeatTimer := none, repeatNo := 0, done := false, transitions := 0, quiet := none, mask := .none })
  ∧ State.reset.kps.mode = .slow ∧ State.reset.kps.activity = none ∧ State.reset.kps.chatterWindow = none
  ∧ State.reset.kps.chord = .idle ∧ State.reset.kps.chordTimer = none ∧ State.reset.kps.window = none
  ∧ State.reset.kps.nextScan = none
  ∧ (∀ l : Fin 16, State.reset.ind.shown[l] = .off ∧ State.reset.ind.sources[l] = .dark)
  ∧ State.reset.ind.roles = { power := 255, heat := 255, alarm := 255, filter := 255, service := 255, fan := 255 }
  ∧ State.reset.ind.plane = 0#32 ∧ State.reset.ind.blink = none ∧ State.reset.ind.lampTest = none
  ∧ State.reset.ind.frame = none
  ∧ State.reset.exc.state = .detached ∧ State.reset.exc.reason = .none ∧ State.reset.exc.result = .none
  ∧ State.reset.exc.attachCount = 0#16
  ∧ State.reset.exc.layout = { orderBase := 0, orderMask := 0, reportBase := 0, reportMask := 0 }
  ∧ State.reset.exc.readIndex = 0#16 ∧ State.reset.exc.inHand = none ∧ State.reset.exc.lastOrder = 0
  ∧ State.reset.exc.poll = none ∧ State.reset.exc.staging = none ∧ State.reset.exc.readLatch = none
  ∧ State.reset.exc.enable = 0#4
  ∧ State.reset.rpu =
    { holding := [], discards := 0, created := 0#32, writeIndex := 0#16, view := none, pending := 0#4, attn := false }
  ∧ State.reset.sst.table = defaultTable ∧ State.reset.sst.keymap = defaultKeyMap ∧ State.reset.sst.source = .defaults
  ∧ State.reset.sst.store = .loading ∧ State.reset.sst.copy = none

/-- A reset is taken: a supply reset below 2.75 V, in every state; a pin reset by 1 µs of RESET_N, which leaves a reset under
way as it is (R198, R202). Every block takes its reset values; a supply reset empties the window, a pin reset keeps it, and
every output is at its level of R201. The equality with the reset state also fixes the model's own values there (the history and
filtered value of a channel, log 14; the settings in use, the host's last read, the clock, the queue and the level of HOST_PG,
log 15; what is on its way from KPS, log 43). Above 2.75 V the time for which VDD has stayed up runs from its first such level,
and exactly at 2.75 V it does not run (log 41). -/
def Obligations.PartResetsAreTaken : Prop :=
  (∀ (dt mv : Nat) (s : State), mv < 2750 →
    exec (.supplyReset dt mv) s = .next
    { State.reset with
      clock := s.clock + dt, tickAt := s.clock + dt, resetting := some .supply, vddUp := none
      resetCause := .supply, psq := { State.reset.psq with hostPg := s.psq.hostPg }, mem := [], pending := s.pending })
  ∧ (∀ (dt : Nat) (s : State), exec (.supplyReset dt 2750) s = .next { s with clock := s.clock + dt, vddUp := none })
  ∧ (∀ (dt mv : Nat) (s : State), 2750 < mv → s.vddUp = none →
    exec (.supplyReset dt mv) s = .next { s with clock := s.clock + dt, vddUp := some (s.clock + dt) })
  ∧ (∀ (dt mv : Nat) (s : State), 2750 < mv → s.vddUp ≠ none →
    exec (.supplyReset dt mv) s = .next { s with clock := s.clock + dt })
  ∧ (∀ (dt ns : Nat) (s : State), 1000 ≤ ns → s.resetting = none →
    exec (.pinReset dt ns) s = .next
    { State.reset with
      clock := s.clock + dt, tickAt := s.clock + dt, resetting := some .pin, vddUp := s.vddUp
      resetCause := .pin, psq := { State.reset.psq with hostPg := s.psq.hostPg }, mem := s.mem, pending := s.pending })
  ∧ (∀ (dt ns : Nat) (s : State), ns < 1000 ∨ s.resetting ≠ none →
    exec (.pinReset dt ns) s = .next { s with clock := s.clock + dt })
  ∧ ∀ (k : ResetKind) (s : State), (s.partReset k).pins =
    { attn := false, mainEn := false, hostReset := true, heaters := Vector.replicate 4 false
      fans := Vector.replicate 2 0, group := none, lamps := 0#4, busEnabled := false, columns := false
      eepromPort := false }

/-- The end of a reset (R198, R166, R167, R202): uptime from 0, LOADING begun, the deglitch started where HOST_PG is asserted,
the last heartbeat value read (at this moment of the start-up: log 34), the anchor and the mirror initialised, and the rest of
the window as it was; that anchor word 10 too keeps what it held, until the load writes it, is the model's inference (log 25).
No output leaves its level but the EEPROM port's, which the load uses; HD0 to HD15 stay at high impedance (R201).
No reset ends while VDD is not above 2.75 V, and a supply reset ends once VDD has stayed above it for 10 ms. -/
def Obligations.ResetEndSetsTheWindow : Prop :=
  (∀ (dt : Nat) (s : State) (k : ResetKind), s.resetting = some k →
    (∃ t0, s.vddUp = some t0 ∧ (k = .supply → t0 + 10000 ≤ s.clock + dt)) →
    ∃ t, exec (.resetEnd dt) s = .next t
      ∧ t.resetting = none ∧ t.vddUp = s.vddUp ∧ t.resetCause = s.resetCause ∧ t.uptime = 0#32
      ∧ t.tickAt = s.clock + dt
      ∧ t.sst = { s.sst with since := s.clock + dt }
      ∧ t.psq = { s.psq with deglitch := if s.psq.hostPg = true then some (s.clock + dt) else none }
      ∧ t.hbw = { s.hbw with lastValue := s.mem.word 40 }
      ∧ Unchanged [.clock, .ticks, .reset, .psq, .hbw, .sst, .window] s t
      ∧ t.mem.word 0 = 0x019A2901#32 ∧ t.mem.word 1 = 1#32 ∧ t.mem.word 8 = 0#32
      ∧ (∀ w : Nat, w < 32 → w ≠ 10 → t.mem.word w = t.anchorValue w)
      ∧ (∀ sec : Section, t.mem.word sec.first = 0#32 ∧ t.mem.word (sec.first + sec.length - 1) = 0#32
        ∧ t.mem.wordsFrom (sec.first + 1) (sec.length - 2) = t.sectionBody sec)
      ∧ BytesKept [(0, 10), (11, 32), (64, 192)] s t
      ∧ (s.sst.store = .loading → t.pins = { s.pins with eepromPort := true } ∧ t.pins.busEnabled = false))
  ∧ ∀ (dt : Nat) (s : State),
    s.resetting = none ∨ s.vddUp = none
      ∨ s.resetting = some .supply ∧ (∃ t0, s.vddUp = some t0 ∧ s.clock + dt < t0 + 10000) →
    exec (.resetEnd dt) s = .next { s with clock := s.clock + dt }

/-- The start-up load's end (R199, R200, R69, R119). An image that passes the checks gives the table and the key map; a check
that fails keeps the defaults and leaves SETTINGS_DEFAULTED in the holding list; EEPROM_ACK_TIMEOUT is a load without an answer,
taken from 10 ms after the load began (log 38). Then PSQ takes its start-up state, the timers start, HD0 to HD15 leave their
high impedance (R201), and after a pin reset the list that the window kept is read back, its counted flags cleared, with the
PIN_RESET record at its tail. -/
def Obligations.StartUpLoadEnds : Prop :=
  let startHistory (s t : State) : Prop :=
    (s.resetCause = .supply → t.hbw.history = s.hbw.history ∧ t.hbw.pendingBoot = s.hbw.pendingBoot)
    ∧ (s.resetCause = .pin → HistoryReadBack s t
      ∧ ∃ r, t.hbw.history.getLast? = some r ∧ r.cause = .pinReset ∧ r.kind = .external
        ∧ r.action = .cold ∧ r.counted = false ∧ r.stamp = s.uptime ∧ r.z0Temp = none ∧ r.lastOrder = 0
        ∧ r.seqState = .standby ∧ r.attached = false
        ∧ t.hbw.pendingBoot = r.sequence ∧ t.hbw.lastAction = some .cold)
  (∀ (dt : Nat) (s : State) (ws : List Word), s.resetting = none → s.sst.store = .loading → s.psq.state = .standby →
    ws.length = 153 → ws[0]? = some 0x4F524443#32 → ws[1]? = some 1#32 → ws.foldl (· + ·) 0#32 = 0#32 →
    ∃ t, exec (.startUpLoad dt (.words ws)) s = .next t
      ∧ t.sst = { s.sst with table := loadSettings ws, keymap := loadKeys ws, source := .stored, store := .idle }
      ∧ t.rpu = s.rpu ∧ t.mem.word 10 = 0#32
      ∧ t.psq.state = (if settingAt (loadSettings ws) 64 = 1 then .heating else .standby)
      ∧ t.psq.mainEn = s.psq.mainEn ∧ t.psq.hostReset = s.psq.hostReset ∧ t.psq.stamp = s.uptime
      ∧ t.period = some (s.clock + dt) ∧ t.exc = { s.exc with poll := some (s.clock + dt) }
      ∧ t.kps = { s.kps with nextScan := some (s.clock + dt), chatterWindow := some (s.clock + dt) }
      ∧ t.ind.blink = some (s.clock + dt) ∧ t.ind.frame = some (s.clock + dt)
      ∧ s.pins.busEnabled = false ∧ t.pins.busEnabled = true
      ∧ startHistory s t
      ∧ Unchanged [.clock, .period, .psq, .hbw, .kps, .ind, .exc, .sst, .window] s t)
  ∧ (∀ (dt : Nat) (s : State) (r : ReadBack) (d : Nat), s.resetting = none → s.sst.store = .loading →
    s.psq.state = .standby → s.rpu.view = none → s.rpu.holding.length < 16 →
    (match r with
      | .noAnswer _ => d = 1
      | .words ws => ws.length = 153
        ∧ (ws[0]? ≠ some 0x4F524443#32 ∧ d = 2
          ∨ ws[0]? = some 0x4F524443#32 ∧ ws[1]? ≠ some 1#32 ∧ d = 3
          ∨ ws[0]? = some 0x4F524443#32 ∧ ws[1]? = some 1#32 ∧ ws.foldl (· + ·) 0#32 ≠ 0#32 ∧ d = 4)) →
    ∃ t, exec (.startUpLoad dt r) s = .next t
      ∧ t.sst = { s.sst with source := .defaults, store := .idle } ∧ t.mem.word 10 = 1#32
      ∧ ReportGiven { kind := .settingsDefaulted, source := 0, detail := d, value := 0 } s t
      ∧ t.psq.state = (if s.setting 64 = 1 then .heating else .standby)
      ∧ t.period = some (s.clock + dt) ∧ startHistory s t ∧ t.pins.busEnabled = true
      ∧ Unchanged [.clock, .period, .psq, .hbw, .kps, .ind, .exc, .rpu, .sst, .window] s t)
  ∧ ∀ (dt : Nat) (s : State) (w : Fin 153) (next : IntakeReach), s.resetting = none → s.sst.store = .loading →
    s.sst.since + 10000 ≤ s.clock + dt →
    exec (.eepromAckTimeout ⟨dt, next⟩ w) s = exec (.startUpLoad dt (.noAnswer w)) s

/-- What a store writes, a load takes back: the image of a table within its ranges and of any key map with 8-bit codes passes the
checks of a load, and gives that table and that key map (R196, R199, R180). -/
def Obligations.StoredImageLoadsBack : Prop :=
  ∀ c : StoreCopy, TableOk c.table → (∀ p : Position, c.keymap[p].code < 256) →
    loadFailure (.words (imageOf c)) = none ∧ loadSettings (imageOf c) = c.table ∧ loadKeys (imageOf c) = c.keymap

/-- A tick of 10 ms: uptime rises by 1 and anchor word 8 shows it (R166). Where the time until HBW's timer expires is then another
than word 134 shows, HBW rewrites the supervision section, its count one higher (R118; looked at once a tick: log 40). -/
def Obligations.UptimeTickCounts : Prop :=
  (∀ (dt : Nat) (s : State), s.resetting = none → s.tickAt + 10000 ≤ s.clock + dt →
    ∃ t, exec (.uptimeTick dt) s = .next t ∧ t.uptime = s.uptime + 1 ∧ t.tickAt = s.clock + dt
      ∧ t.mem.word 8 = s.uptime + 1 ∧ Unchanged [.clock, .ticks, .window] s t ∧ BytesKept [(8, 9), supervisionSpan] s t
      ∧ (s.mem.word 134 = BitVec.ofNat 32 t.watchRemaining → BytesKept [(8, 9)] s t)
      ∧ (s.mem.word 134 ≠ BitVec.ofNat 32 t.watchRemaining →
        t.mem.word 128 = s.mem.word 128 + 1 ∧ t.mem.word 159 = s.mem.word 128 + 1
        ∧ t.mem.wordsFrom 129 30 = t.supervisionBody))
  ∧ ∀ (dt : Nat) (s : State) (c : Countdown), s.resetting = none → s.tickAt + 10000 ≤ s.clock + dt →
    s.hbw.phase = .boot ∧ s.hbw.boot = some c ∨ s.hbw.phase = .watch ∧ s.hbw.watch = some c
      ∨ s.hbw.phase = .grace ∧ s.hbw.grace = some c →
    ∃ t, exec (.uptimeTick dt) s = .next t
      ∧ t.mem.word 134 = BitVec.ofNat 32 ((c.start + c.length - (s.clock + dt) + 9999) / 10000)

/-! ## Climate -/

/-- A falling tach edge by the count's condition, and a count that passes 65535 µs (R55); a heater's output goes off when its
granted duty times 250 ms / 256 of its frame has passed (R39). That the tach count runs before the start-up load's completion
too is the model's choice (log 44). -/
def Obligations.TachAndHeaterTimesAreKept : Prop :=
  ((∀ (dt : Nat) (n : Fin 2) (s : State), s.resetting = none →
      ∃ t, exec (.tachEdge dt n) s = .next t ∧ Unchanged [.clock, .fc] s t
        ∧ t.fc = { s.fc with fans := t.fc.fans } ∧ (∀ m : Fin 2, m ≠ n → t.fc.fans[m] = s.fc.fans[m])
        ∧ match s.fc.fans[n].tach with
          | .noEdge | .overrun => t.fc.fans[n] = { s.fc.fans[n] with tach := .running (s.clock + dt) }
          | .running t0 => ∀ k : Nat, t0 + k = s.clock + dt → t.fc.fans[n] =
              if k = 0 then s.fc.fans[n]
              else if k ≤ 65535 then { s.fc.fans[n] with tach := .running (s.clock + dt), capture := .unread k }
              else { s.fc.fans[n] with tach := .running (s.clock + dt) })
    ∧ ∀ (dt : Nat) (n : Fin 2) (s : State) (t0 : Nat), s.resetting = none → s.fc.fans[n].tach = .running t0 →
      t0 + 65535 < s.clock + dt →
      exec (.tachOverrun dt n) s = .next
        { s with clock := s.clock + dt, fc := { s.fc with fans := s.fc.fans.set n { s.fc.fans[n] with tach := .overrun } } })
  ∧ (∀ (dt : Nat) (n : Fin 4) (s : State) (t0 : Nat), s.resetting = none → s.zc.frameAt = some t0 →
      1 ≤ s.zc.zones[n].granted → s.zc.zones[n].granted ≤ 255 →
      t0 * 256 + s.zc.zones[n].granted * 250000 ≤ (s.clock + dt) * 256 →
      exec (.heaterOnTimeEnd dt n) s = .next
        { s with clock := s.clock + dt, zc := { s.zc with heaterOn := s.zc.heaterOn.set n false } })

/-- A control period's measurements (R1, R3, R4, R5), and all that a control period may touch. In a period that completes no
overheat, its reports (R6, R26, R41, R42, R60, R62) are created block by block (in the order of logs 10 and 42; a warm start's
value: log 13): with a detached view and room they join the holding list in order. -/
def Obligations.MeasurementsAreApplied : Prop :=
  ∀ (dt : Nat) (ms : Vector Measurement 6) (turn : PsqTurn) (s : State) (p : Nat),
    s.resetting = none → s.period = some p → p + 250000 ≤ s.clock + dt →
    ∃ t, exec (.controlPeriod dt ms turn) s = .next t ∧ t.period = some (s.clock + dt)
      ∧ (∀ n : Fin 6,
        let c := s.sfe[n]
        let bad : Channel :=
          { c with
            bad := min 3 (c.bad + 1), good := 0
            status := if c.filled = true ∧ c.status ≠ .failed then (if c.bad + 1 < 3 then .suspect else .failed)
              else c.status }
        let filled (v : Int) : Channel :=
          { h0 := v, h1 := v, h2 := v, h3 := v, filtered := v, status := .good, bad := 0, good := 0, filled := true }
        match ms[n] with
        | .lowRail => t.sfe[n] = bad
        | .highRail => t.sfe[n] = bad
        | .code m =>
          if c.filled = false ∧ c.bad < 3 then t.sfe[n] = filled m.toInt
          else if c.status = .failed then
            if c.good + 1 < 8 then t.sfe[n] = { c with good := c.good + 1 } else t.sfe[n] = filled m.toInt
          else t.sfe[n] =
            { c with
              h0 := c.h1, h1 := c.h2, h2 := c.h3, h3 := m.toInt, filtered := (c.h1 + c.h2 + c.h3 + m.toInt + 2) / 4
              status := .good, bad := 0 })
      ∧ Unchanged [.clock, .period, .sfe, .zc, .la, .fc, .psq, .hbw, .kps, .exc, .rpu, .window] s t
      ∧ BytesKept [anchorSpan, (64, 128), supervisionSpan, panelSpan, historySpan, s.queueSpan] s t
      ∧ (s.noOverheatDue →
        t.rpu = (s.createReports (periodReports ms s t)).rpu
        ∧ (∀ w : Nat, 256 ≤ w → t.mem.word w = (s.createReports (periodReports ms s t)).mem.word w)
        ∧ (s.rpu.view = none → s.rpu.discards ≤ 65535 → s.rpu.holding.length + (periodReports ms s t).length ≤ 16 →
          t.rpu = { s.rpu with
            created := s.rpu.created + BitVec.ofNat 32 (periodReports ms s t).length
            holding := s.rpu.holding ++ (periodReports ms s t).zipIdx.map fun p =>
              { kind := p.1.kind, source := p.1.source, detail := p.1.detail, value := p.1.value, stamp := s.uptime
                number := s.rpu.created + BitVec.ofNat 32 (p.2 + 1) } }))

/-- The used temperature of a zone (R8) and its credit update (R14), with the settings in force for the period (R10). In the
first period after a reset whose warm-start check succeeds the credit is set to the soak target first (R22). -/
def Obligations.CreditFollowsTheTemperature : Prop :=
  ∀ (dt : Nat) (ms : Vector Measurement 6) (turn : PsqTurn) (s : State) (p : Nat),
    s.resetting = none → s.period = some p → p + 250000 ≤ s.clock + dt →
    ∃ t, exec (.controlPeriod dt ms turn) s = .next t ∧ t.zc.firstPeriod = false ∧ ∀ n : Fin 4,
      let own := t.sfe[n.val]
      let a := t.sfe[4]
      let z := t.zc.zones[n]
      let warm : Prop := s.zc.firstPeriod = true ∧ a.status = .good ∧ a.filled = true ∧ s.setting 2 ≤ a.filtered
      let tr := s.setting (9 + 8 * n.val)
      (if own.status ≠ .failed ∧ own.filled = true then
          z.used = some own.filtered ∧ z.substitute = false ∧ z.noTemp = false
        else if a.status ≠ .failed ∧ a.filled = true then
          z.used = some (max (-2048) (a.filtered - 128)) ∧ z.substitute = true ∧ z.noTemp = false
        else z.used = none ∧ z.substitute = false ∧ z.noTemp = true)
      ∧ ∀ credit : Nat, (warm → credit = (s.setting (10 + 8 * n.val)).toNat) → (¬ warm → credit = s.zc.zones[n].credit) →
        (match z.used with
        | none => z.credit = credit
        | some v => if tr ≤ v then (z.credit : Int) = min 65535 (credit + min (v - tr) 160)
          else (z.credit : Int) = max 0 (credit - 2 * min (tr - v) 160))
        ∧ (credit ≤ 65535 → z.credit ≤ 65535)

/-- The request of a zone from the state it ends the period in (R18), with Ts and Kp in force for the period; a zone without heat
permission is placed IDLE (R12, R16). In a period that completes no overheat, whose main-off event would place the zones anew, the
trip check, the placement and the heat-time step in closed form (R15, R16, R19 to R22). -/
def Obligations.RequestFollowsTheSetpoint : Prop :=
  ∀ (dt : Nat) (ms : Vector Measurement 6) (turn : PsqTurn) (s : State) (p : Nat),
    s.resetting = none → s.period = some p → p + 250000 ≤ s.clock + dt →
    ∃ t, exec (.controlPeriod dt ms turn) s = .next t ∧ ∀ n : Fin 4,
      let z := t.zc.zones[n]
      let ts := s.setting (8 + 8 * n.val)
      let kp := s.setting (11 + 8 * n.val)
      (if z.state = .idle ∨ z.state = .tripped then z.request = 0
        else match z.used with
          | none => z.request = 256
          | some v => if ts ≤ v then z.request = 0
            else 0 ≤ kp → (z.request : Int) = min 256 ((ts - v) * kp / 16))
      ∧ (s.psq.state = .standby ∨ s.psq.state = .holdoff → s.setting (15 + 8 * n.val) ≠ 1 →
        z.state = .idle ∨ z.state = .tripped)
      ∧ (s.noOverheatDue →
        let y := s.zc.zones[n]
        let warm := warmAt s t
        let found : ZoneState := if warm then .ready else y.state
        let slow : Bool := if warm then false else y.heatSlow
        let timed : Bool := if warm then false else y.timed
        let count : Nat := if warm then 0 else y.heatTime
        let permitted : Bool :=
          (decide (s.psq.state ≠ .standby) && decide (s.psq.state ≠ .holdoff)) || decide (s.setting (15 + 8 * n.val) = 1)
        let expired : Bool := decide ((s.setting 3).toNat * 60000000 ≤ (count + 1) * 250000)
        let above (x : Int) : Bool := match z.used with
          | none => false
          | some v => decide (x < v)
        let warmEnough : Bool := match z.used with
          | none => false
          | some v => decide (s.setting (9 + 8 * n.val) ≤ v)
        let readyBefore : Bool := if found = .tripped then false else y.wasReady
        (z.state, z.wasReady, z.timed, z.heatTime, z.heatSlow) =
          if found ≠ .tripped ∧ above (s.setting 4) = true then (.tripped, decide (found = .ready), false, count, slow)
          else if found = .tripped ∧ (z.used = none ∨ above (s.setting 4 - 80) = true) then
            (.tripped, y.wasReady, timed, count, slow)
          else if permitted = false then (.idle, readyBefore, false, 0, false)
          else if found = .ready then (.ready, readyBefore, timed, count, slow)
          else if found = .tripped ∧ y.wasReady = true then (.ready, false, timed, 0, false)
          else if warmEnough = true ∧ (s.setting (10 + 8 * n.val)).toNat ≤ z.credit then (.ready, readyBefore, false, 0, false)
          else if z.used = none then
            if expired = true then (.ready, readyBefore, true, 0, false)
            else (.heating, readyBefore, timed, count + 1, slow)
          else (if warmEnough then .soaking else .heating, readyBefore, timed, count + 1, slow || expired))

/-- A control period's allocation stays within the supply (R29, R30, R32, R33, R36, R37, R38, R39): the applied copies, the
power available, each load's request power, grant and granted duty, their total, and their return to ZC, FC and the heaters. -/
def Obligations.GrantsStayWithinTheSupply : Prop :=
  ∀ (dt : Nat) (ms : Vector Measurement 6) (turn : PsqTurn) (s : State) (p : Nat),
    s.resetting = none → s.period = some p → p + 250000 ≤ s.clock + dt →
    ∃ t, exec (.controlPeriod dt ms turn) s = .next t
      ∧ t.la.budget = (s.setting 0).toNat ∧ t.la.reservation = (s.setting 1).toNat
      ∧ t.la.applies = (match turn with
        | .beforeAllocation => t.psq.state.railOn
        | .afterAllocation => s.psq.state.railOn)
      ∧ t.la.available = (if t.la.applies = true then t.la.budget - t.la.reservation else t.la.budget)
      ∧ t.la.total ≤ t.la.available ∧ t.la.total = (t.la.loads.toList.map Load.grant).sum
      ∧ (t.la.applies = true → t.la.budget ≤ t.la.reservation → t.la.total = 0)
      ∧ (∀ i : Fin 6,
        let l := t.la.loads[i]
        l.power = (l.rating * l.duty + 255) / 256 ∧ l.grant ≤ l.power
        ∧ l.granted = min l.duty (l.grant * 256 / l.rating)
        ∧ (1 ≤ l.rating → l.grant = l.power → l.granted = l.duty)
        ∧ (1 ≤ l.rating → l.rating * l.granted ≤ l.grant * 256))
      ∧ (∀ n : Fin 4,
        t.la.loads[n.val].duty = t.zc.zones[n].request ∧ t.la.loads[n.val].cls = (s.setting (12 + 8 * n.val)).toNat
        ∧ t.la.loads[n.val].rating = (s.setting (13 + 8 * n.val)).toNat
        ∧ t.zc.zones[n].granted = t.la.loads[n.val].granted
        ∧ t.zc.heaterOn[n] = decide (0 < t.la.loads[n.val].granted))
      ∧ (∀ n : Fin 2,
        t.la.loads[n.val + 4].duty = t.fc.fans[n].request
        ∧ t.la.loads[n.val + 4].cls = (s.setting (46 + 8 * n.val)).toNat
        ∧ t.la.loads[n.val + 4].rating = (s.setting (47 + 8 * n.val)).toNat
        ∧ t.fc.fans[n].grant = t.la.loads[n.val + 4].granted)
      ∧ t.zc.frameAt = some (s.clock + dt)

/-- The class pass of a control period in closed form (R34, R35): a class whose power, with that of the classes before it, is
available is served in full; the first that is not shares what is left in proportion, rounded down; the later ones get nothing.
Class 0 is not short where its power is available, and no class is where the power of all is (R35, R41). -/
def Obligations.GrantsFollowTheClassPass : Prop :=
  ∀ (dt : Nat) (ms : Vector Measurement 6) (turn : PsqTurn) (s : State) (p : Nat),
    s.resetting = none → s.period = some p → p + 250000 ≤ s.clock + dt →
    ∃ t, exec (.controlPeriod dt ms turn) s = .next t ∧ ∀ i : Fin 6,
      let l := t.la.loads[i]
      let before := t.la.powerOf (fun c => decide (c < l.cls))
      let own := t.la.powerOf (fun c => decide (c = l.cls))
      (before + own ≤ t.la.available → l.grant = l.power)
      ∧ (before ≤ t.la.available → t.la.available < before + own →
        l.grant = l.power * (t.la.available - before) / own ∧ (l.cls < 4 → t.la.shortClass = some l.cls)
        ∧ (l.cls = 0 → t.la.short0 = true ∧ t.la.shortfall = own - t.la.available))
      ∧ (t.la.available < before → l.grant = 0)
      ∧ (t.la.powerOf (fun c => decide (c = 0)) ≤ t.la.available → t.la.short0 = false ∧ t.la.shortfall = 0)
      ∧ (t.la.powerOf (fun _ => true) ≤ t.la.available → t.la.shortClass = none)

/-- The fans' control period (R51, R56, R57, R58, R59): the reading and the speed, the stall test of an OK fan and the recovery
of a FAILED one, on the grant the fan had in the period; and, in a period that completes no overheat, the forced flags and the
request by force, mode and AUTO curve (R52, R53, R54). Which PSQ state the mode reads, by the turn, is log 11's. -/
def Obligations.FansAreTested : Prop :=
  ∀ (dt : Nat) (ms : Vector Measurement 6) (turn : PsqTurn) (s : State) (p : Nat),
    s.resetting = none → s.period = some p → p + 250000 ≤ s.clock + dt →
    ∃ t, exec (.controlPeriod dt ms turn) s = .next t ∧ ∀ n : Fin 2,
      let f := s.fc.fans[n]
      let g := t.fc.fans[n]
      let threshold := (s.setting (44 + 8 * n.val)).toNat * f.grant / 256 * (s.setting (45 + 8 * n.val)).toNat / 256
      (match f.capture with
        | .unread q => g.capture = .read q ∧ g.reading = some q ∧ g.speed = 30000000 / q
        | .read q => g.capture = .read q ∧ g.reading = none ∧ g.speed = 0
        | .none => g.capture = .none ∧ g.reading = none ∧ g.speed = 0)
      ∧ (if f.failed = false then
          if f.grant < 64 ∨ threshold ≤ g.speed then g.failed = false ∧ g.stall = 0 ∧ g.good = f.good
          else if f.stall + 1 < 8 then g.failed = false ∧ g.stall = f.stall + 1 ∧ g.good = f.good
          else g.failed = true ∧ g.stall = 8 ∧ g.good = 0
        else if f.grant < 64 then g.failed = true ∧ g.stall = f.stall ∧ g.good = f.good
        else if g.speed < threshold then g.failed = true ∧ g.stall = f.stall ∧ g.good = 0
        else if f.good + 1 < 8 then g.failed = true ∧ g.stall = f.stall ∧ g.good = f.good + 1
        else g.failed = false ∧ g.stall = 0 ∧ g.good = 0)
      ∧ g.tach = f.tach
      ∧ (s.noOverheatDue →
        let e := t.sfe[5]
        let rail : Bool := match turn with
          | .beforeAllocation => t.psq.state.railOn
          | .afterAllocation => s.psq.state.railOn
        let low : Int := ((s.setting (42 + 8 * n.val)).toNat : Int)
        let tf0 := s.setting 56
        let tf1 := s.setting 57
        (g.forcedTrip = true ↔ ∃ m : Fin 4, t.zc.zones[m].state = .tripped)
        ∧ (g.forcedOverheat = true ↔ 0 < t.zc.dwell)
        ∧ (g.forcedExhaust = true ↔ e.status = .failed ∨ e.filled = false)
        ∧ (g.forcedTrip = true ∨ g.forcedOverheat = true ∨ g.forcedExhaust = true → g.request = 256)
        ∧ (g.forcedTrip = false → g.forcedOverheat = false → g.forcedExhaust = false →
          (s.setting (40 + 8 * n.val) = 0 → g.request = 0)
          ∧ (s.setting (40 + 8 * n.val) = 1 → g.request = (s.setting (41 + 8 * n.val)).toNat)
          ∧ (s.setting (40 + 8 * n.val) = 2 → rail = false → g.request = (s.setting (43 + 8 * n.val)).toNat)
          ∧ (s.setting (40 + 8 * n.val) = 2 → rail = true →
            (e.filtered ≤ tf0 → (g.request : Int) = low)
            ∧ (tf0 < e.filtered → tf1 ≤ e.filtered ∨ tf1 ≤ tf0 → g.request = 256)
            ∧ (tf0 < e.filtered → e.filtered < tf1 → low ≤ 256 →
              (g.request : Int) = low + (e.filtered - tf0) * (256 - low) / (tf1 - tf0)))))

/-- The clog score (R61) and the filter flag (R62) of a control period, on the fans as tested and the grants they had. That FC
reads PSQ's state of before the examination or after it, by the turn that the command names, is the model's choice (log 11). -/
def Obligations.ClogScoreFollowsTheAirflow : Prop :=
  ∀ (dt : Nat) (ms : Vector Measurement 6) (turn : PsqTurn) (s : State) (p : Nat),
    s.resetting = none → s.period = some p → p + 250000 ≤ s.clock + dt →
    ∃ t, exec (.controlPeriod dt ms turn) s = .next t ∧
      let rail : Bool := match turn with
        | .beforeAllocation => t.psq.state.railOn
        | .afterAllocation => s.psq.state.railOn
      let a := t.sfe[4]
      let e := t.sfe[5]
      (s.fc.clog ≤ 1000 → t.fc.clog ≤ 1000) ∧
      if t.fc.fans[0].failed = true ∨ t.fc.fans[1].failed = true ∨ a.status = .failed ∨ a.filled = false
          ∨ e.status = .failed ∨ e.filled = false then
        t.fc.clog = s.fc.clog ∧ t.fc.filterFlag = s.fc.filterFlag
      else if rail = true ∧ 192 ≤ s.fc.fans[0].grant ∧ 192 ≤ s.fc.fans[1].grant
          ∧ s.setting 58 ≤ e.filtered - a.filtered then
        t.fc.clog = min 1000 (s.fc.clog + 1) ∧ t.fc.filterFlag = (s.fc.filterFlag || decide (999 ≤ s.fc.clog))
      else t.fc.clog = s.fc.clog - 1 ∧ t.fc.filterFlag = s.fc.filterFlag

/-- A zone becomes READY at a control period and no other event, and there in one of four ways (R16): by temperature and credit,
by warm start, by timed release, or by the readiness held through a trip. -/
def Obligations.ReadinessComesOnlyAtAControlPeriod : Prop :=
  ∀ (c : Instr) (s t : State) (n : Fin 4), exec c s = .next t →
    t.zc.zones[n].state = .ready → s.zc.zones[n].state ≠ .ready →
    ∃ (dt : Nat) (ms : Vector Measurement 6) (turn : PsqTurn), c = .controlPeriod dt ms turn
      ∧ ((∃ v, t.zc.zones[n].used = some v ∧ s.setting (9 + 8 * n.val) ≤ v
            ∧ (s.setting (10 + 8 * n.val)).toNat ≤ t.zc.zones[n].credit)
        ∨ (s.zc.firstPeriod = true ∧ t.sfe[4].status = .good ∧ t.sfe[4].filled = true ∧ s.setting 2 ≤ t.sfe[4].filtered)
        ∨ (t.zc.zones[n].used = none ∧ t.zc.zones[n].timed = true)
        ∨ (s.zc.zones[n].state = .tripped ∧ s.zc.zones[n].wasReady = true))

/-- The computer's rail comes on only from HEATING, at a control period whose gating zones are all READY (R71), in a state whose
MAIN_EN follows its sequencer state. That HEATING is the state before the whole period, so that a HOLDOFF released in it does not
pass the gate in the same period, is the model's reading (log 12). -/
def Obligations.RailComesOnOnlyThroughTheGate : Prop :=
  ∀ (c : Instr) (s t : State), SupervisionOk s → exec c s = .next t → s.psq.mainEn = false → t.psq.mainEn = true →
    (∃ (dt : Nat) (ms : Vector Measurement 6) (turn : PsqTurn), c = .controlPeriod dt ms turn)
    ∧ s.psq.state = .heating ∧ t.psq.state = .powering
    ∧ ∀ n : Fin 4, s.setting (14 + 8 * n.val) = 1 → t.zc.zones[n].state = .ready

/-- After a control period the climate and supervision sections are rewritten with the state it leaves, their counts one higher
(R27, R92, R118, R167); the report queue, if RPU has one, lies in the host area. That a period which also changes PSQ's or HBW's
fields rewrites the supervision section once, and not twice, is the model's choice (log 8). -/
def Obligations.MirrorFollowsTheControlPeriod : Prop :=
  ∀ (dt : Nat) (ms : Vector Measurement 6) (turn : PsqTurn) (s : State) (p : Nat),
    s.resetting = none → s.period = some p → p + 250000 ≤ s.clock + dt →
    (∀ q, s.rpu.view = some q → 256 ≤ q.base ∧ q.base + (q.mask + 1) * 4 ≤ 2048) →
    ∃ t, exec (.controlPeriod dt ms turn) s = .next t
      ∧ t.mem.word 64 = s.mem.word 64 + 1 ∧ t.mem.word 127 = s.mem.word 64 + 1
      ∧ t.mem.wordsFrom 65 62 = t.climateBody
      ∧ t.mem.word 128 = s.mem.word 128 + 1 ∧ t.mem.word 159 = s.mem.word 128 + 1
      ∧ t.mem.wordsFrom 129 30 = t.supervisionBody

/-! ## The sequencer and the watch -/

/-- HOST_PG at a new level starts the deglitch where it differs from PG seen and stops it where it does not; 2 ms later PG seen
takes the level, which is recorded, and in POWERING starts or stops the settle (R68, R72). The loss of power good in BOOTING,
RUNNING and WARNED is a failure, stated with the other failures. The mirror follows (R92, R118, R149, R167), one rewrite an
effect (the model's choice: log 8); in LOADING too, where R92 also says that the fields hold their reset values until the load
completes and that rewrite is the model's choice (log 33). -/
def Obligations.PowerGoodIsDeglitched : Prop :=
  (∀ (dt : Nat) (level : Bool) (s : State), s.resetting = none → s.psq.hostPg = level →
    exec (.hostPgChange dt level) s = .next { s with clock := s.clock + dt })
  ∧ (∀ (dt : Nat) (level : Bool) (s : State), s.resetting = none → s.psq.hostPg ≠ level →
    exec (.hostPgChange dt level) s = .next
      { s with
        clock := s.clock + dt
        psq := { s.psq with
          hostPg := level, deglitch := if level = s.psq.pgSeen then none else some (s.clock + dt) } })
  ∧ ∀ (dt : Nat) (s : State) (t0 : Nat), s.resetting = none → s.psq.deglitch = some t0 → t0 + 2000 ≤ s.clock + dt →
    (s.psq.state.up = true → s.psq.hostPg = true) →
    ∃ t, exec (.pgDeglitchExpiry dt) s = .next t
      ∧ t.psq = { s.psq with
        deglitch := none, pgSeen := s.psq.hostPg
        settle := if s.psq.state = .powering then
            (if s.psq.hostPg = true then (if s.psq.settle.isSome = true then s.psq.settle else some (s.clock + dt)) else none)
          else s.psq.settle }
      ∧ MirrorFollows s t
      ∧ Unchanged [.clock, .psq, .window] s t ∧ BytesKept [supervisionSpan] s t

/-- The end of a settle, and of a reset pulse with power good present, enters BOOTING (R72, R74, R80, R98, R99, R116). An
OPERATOR_RESTART key that waited for the entry with the service window open restarts the computer at once (R135, R115, R77), the
lowest position first (the model's order: log 35, and after the entry: log 19); its failure goes on its way where failures are
delayed (log 43). The mirror follows (R92, R118, R149, R167), one rewrite an effect (the model's choice: log 8). -/
def Obligations.BootingIsEntered : Prop :=
  let due (dt d : Nat) (c : Instr) (s : State) : Prop :=
    s.resetting = none
    ∧ (c = .settleTimerExpiry dt ∧ d = 0 ∧ s.psq.state = .powering ∧ (∃ t0, s.psq.settle = some t0 ∧ t0 + 50000 ≤ s.clock + dt)
      ∨ c = .pulseTimerExpiry dt ∧ d = 1 ∧ s.psq.state = .restarting ∧ s.psq.pgSeen = true
        ∧ ∃ t0, s.psq.pulse = some t0 ∧ t0 + 200000 ≤ s.clock + dt)
  let ready (dt : Nat) (s : State) (p : Position) : Bool :=
    ({ s with psq := { s.psq with state := .booting } } : State).operatorReady (s.clock + dt) (s.setting 86).toNat p
  (∀ (dt d : Nat) (c : Instr) (s : State), due dt d c s → s.kps.window = none ∨ (∀ p : Position, ready dt s p = false) →
    ∃ t, exec c s = .next t ∧ t.clock = s.clock + dt ∧ BootingEntered d s t ∧ t.kps = s.kps ∧ MirrorFollows s t)
  ∧ (∀ (dt d : Nat) (c : Instr) (p : Position) (s : State), due dt d c s → s.kps.window ≠ none → ready dt s p = true →
    (∀ q : Position, q < p → ready dt s q = false) → s.kps.operatorLate = false → s.psq.held = none →
    ∃ t, exec c s = .next t ∧ t.clock = s.clock + dt ∧ BootingRestarted d p s t ∧ MirrorFollows s t)
  ∧ ∀ (dt d : Nat) (c : Instr) (s : State), due dt d c s → s.kps.window ≠ none → s.kps.operatorLate = true →
    ∃ t, exec c s = .next t ∧ t.clock = s.clock + dt ∧ BootingEntered d s t
      ∧ (∀ p : Position, t.key p = if ready dt s p = true then { s.key p with done := true } else s.key p)
      ∧ t.kps = { s.kps with
        keys := t.kps.keys, operatorSent := s.kps.operatorSent + (List.finRange 48).countP (ready dt s) }
      ∧ MirrorFollows s t

/-- The AUTOMATIC failures (R73, R80, R99, R100, R101, R105 to R108, R76 to R78): PG_TIMEOUT at 2 s of POWERING, PG_LOST at a
pulse without power good and at its loss while the computer is up, BOOT_TIMEOUT, and WATCH_EXPIRED at the grace timer or, with a
grace of 0 s, at the watch timer. Each is recorded, decided by the ladder and carried out: with the main-off event where the
rail goes off (R23, R79; Tr as log 16 says), and, in HOLDOFF, with the masks that its shorter quiet time releases (R139; log
19). With a trigger between the decision and PSQ's transition (R102; an operand of the command: log 30) an ARM_WATCH taken there
arms the watch, and the transition returns the phase to NONE, its outcome written or lost to the detach. A PG_LOST that meets a
held decision is taken in the state that the held one leaves (R77). At a control period that completes no overheat, counted
flags age and the region follows (R111, R112). The mirror follows (R92, R118, R149, R167), one rewrite an effect (the model's
choice: log 8). -/
def Obligations.AutomaticFailuresAreDecided : Prop :=
  let due (dt : Nat) (c : Option IntakeReach → Instr) (cause : Cause) (s : State) : Prop :=
    s.resetting = none ∧ s.psq.held = none
    ∧ (c = (fun b => .bootDeadlineExpiry ⟨dt, b⟩) ∧ cause = .bootTimeout ∧ s.psq.state = .booting ∧ s.hbw.phase = .boot
        ∧ (∃ k : Countdown, s.hbw.boot = some k ∧ k.start + k.length ≤ s.clock + dt)
      ∨ c = (fun b => .graceTimerExpiry ⟨dt, b⟩) ∧ cause = .watchExpired ∧ s.psq.state = .warned ∧ s.hbw.phase = .grace
        ∧ (∃ k : Countdown, s.hbw.grace = some k ∧ k.start + k.length ≤ s.clock + dt)
      ∨ c = (fun b => .watchTimerExpiry ⟨dt, b⟩) ∧ cause = .watchExpired ∧ s.psq.state = .running ∧ s.hbw.phase = .watch
        ∧ (∃ k : Countdown, s.hbw.watch = some k ∧ k.start + k.length ≤ s.clock + dt)
        ∧ (match s.hbw.source with
          | .settings => s.setting 67 = 0
          | .order => s.hbw.orderGrace = 0))
  let shown (s t : State) : Prop := s.queueAside → t.mem.wordsFrom 129 30 = t.supervisionBody
  let armed (cause : Cause) (s t : State) : Prop :=
    FailureTaken (s.failureRecord cause .automatic (s.ladder false)) s t ∧ DecisionCarriedOut (s.ladder false) s t
    ∧ TakenDown s t ∧ KeypadFollows (s.ladder false) s t ∧ t.hbw.source = .order ∧ shown s t
    ∧ Unchanged [.clock, .psq, .hbw, .exc, .rpu, .zc, .kps, .window] s t
    ∧ BytesKept [anchorSpan, supervisionSpan, panelSpan, historySpan, (s.orderSlot, s.orderSlot + 8)] s t
  let armResult (r : OrderRecord) : OrderResult :=
    let into (lo hi v : Int) : Int := if v < lo then lo else if hi < v then hi else v
    { outcome := if into 1 600 r.w1.toInt = r.w1.toInt ∧ into 0 60 r.w2.toInt = r.w2.toInt then .done else .clamped
      value := BitVec.ofInt 32 (into 1 600 r.w1.toInt), detail := BitVec.ofInt 32 (into 0 60 r.w2.toInt) }
  ((∀ (dt : Nat) (s : State) (t0 : Nat), s.resetting = none → s.psq.held = none → s.psq.state = .powering →
      s.psq.pgTimer = some t0 → t0 + 2000000 ≤ s.clock + dt →
      ∃ t, exec (.powerGoodTimerExpiry dt) s = .next t ∧ t.clock = s.clock + dt ∧ AutomaticFailure .pgTimeout true s t
        ∧ MirrorFollows s t)
    ∧ (∀ (dt : Nat) (s : State) (t0 : Nat), s.resetting = none → s.psq.held = none → s.psq.state = .restarting →
      s.psq.pulse = some t0 → t0 + 200000 ≤ s.clock + dt → s.psq.pgSeen = false →
      ∃ t, exec (.pulseTimerExpiry dt) s = .next t ∧ t.clock = s.clock + dt ∧ AutomaticFailure .pgLost true s t
        ∧ MirrorFollows s t)
    ∧ (∀ (dt : Nat) (s : State) (t0 : Nat), s.resetting = none → s.psq.held = none → s.psq.state.up = true →
      s.psq.hostPg = false → s.psq.deglitch = some t0 → t0 + 2000 ≤ s.clock + dt →
      ∃ t, exec (.pgDeglitchExpiry dt) s = .next t ∧ t.clock = s.clock + dt ∧ t.psq.pgSeen = false
        ∧ AutomaticFailure .pgLost true s t ∧ MirrorFollows s t)
    ∧ (∀ (dt : Nat) (s : State) (t0 : Nat) (a : Action), s.resetting = none → s.psq.held = some a →
      a = .warm ∨ a = .cold → s.psq.state.up = true → s.psq.hostPg = false → s.psq.deglitch = some t0 →
      t0 + 2000 ≤ s.clock + dt →
      ∃ t, exec (.pgDeglitchExpiry dt) s = .next t ∧ t.clock = s.clock + dt ∧ t.psq.pgSeen = false ∧ t.psq.held = none
        ∧ FailureTaken (s.failureRecord .pgLost .automatic (s.ladder true)) s t
        ∧ DecisionCarriedOut (if a = .warm then s.ladder true else .cold) s t
        ∧ KeypadFollows (if a = .warm then s.ladder true else .cold) s t
        ∧ TakenDown s t ∧ t.exc = s.detachedForRestart ∧ MirrorFollows s t
        ∧ Unchanged [.clock, .psq, .hbw, .exc, .rpu, .zc, .kps, .window] s t
        ∧ BytesKept [anchorSpan, supervisionSpan, panelSpan, historySpan, s.takenDown.queueSpan] s t))
  ∧ ((∀ (dt : Nat) (c : Option IntakeReach → Instr) (cause : Cause) (s : State), due dt c cause s →
      ∃ t, exec (c none) s = .next t ∧ t.clock = s.clock + dt ∧ AutomaticFailure cause false s t ∧ MirrorFollows s t)
    ∧ (∀ (dt : Nat) (c : Option IntakeReach → Instr) (cause : Cause) (reach : IntakeReach) (s : State), due dt c cause s →
      s.nothingToTake →
      ∃ t, exec (c (some reach)) s = .next t ∧ t.clock = s.clock + dt ∧ AutomaticFailure cause false s t ∧ shown s t)
    ∧ (∀ (dt : Nat) (c : Option IntakeReach → Instr) (cause : Cause) (r : OrderRecord) (s : State), due dt c cause s →
      s.offers .armWatch r → r.w3 = 0#32 → entryInHostArea s.orderSlot →
      ∃ t, exec (c (some .toTake)) s = .next t ∧ t.clock = s.clock + dt ∧ armed cause s t
        ∧ t.exc = { s.detachedForRestart with
          lastOrder := r.code
          inHand := some { record := r, entry := s.orderSlot, discard := true, result := some (armResult r) } })
    ∧ ∀ (dt : Nat) (c : Option IntakeReach → Instr) (cause : Cause) (r : OrderRecord) (s : State), due dt c cause s →
      s.offers .armWatch r → r.w3 = 0#32 → s.exc.readIndex + 1 = s.orderWrite → entryInHostArea s.orderSlot →
      (∀ n : Nat, s.psq.delay ≠ .waiting n) →
      ∃ t, exec (c (some .toAnswer)) s = .next t ∧ t.clock = s.clock + dt ∧ armed cause s t
        ∧ AnsweredAt { record := r, entry := s.orderSlot, discard := false, result := some (armResult r) } (armResult r) t
        ∧ t.exc = { s.detachedForRestart with lastOrder := r.code, readIndex := s.exc.readIndex + 1 })
  ∧ ∀ (dt : Nat) (ms : Vector Measurement 6) (turn : PsqTurn) (s : State) (p : Nat),
    s.resetting = none → s.period = some p → p + 250000 ≤ s.clock + dt → s.noOverheatDue →
    ∃ t, exec (.controlPeriod dt ms turn) s = .next t
      ∧ t.hbw.history = s.agedHistory
      ∧ t.hbw.historyUpdates = (if s.agedHistory = s.hbw.history then s.hbw.historyUpdates else s.hbw.historyUpdates + 1)
      ∧ (s.agedHistory ≠ s.hbw.history → s.hbw.history.length ≤ 8 → s.queueAside → HistoryShown t)

/-- The off timer of CYCLING and the retry timer of HOLDOFF (ESCALATION) release PSQ into HEATING (R81, R89); a retry setting of
0 never does. The end of SHUTDOWN's delay (R83, R78, R79, R23) takes the computer down, its rail off, and enters STANDBY, READY
zones placed by their last temperature and by the Tr in use since the last period (the model's reading: log 16). The entries
into STANDBY and HOLDOFF release the CHATTER masks that the shortened quiet time finds due (R139; positions ascending: log 19).
Overheat: the source and the dwell of a control period (R24), the completion, recorded and answered by HOLDOFF (OVERHEAT) with a
held decision discarded (R25, R85), and the release by cooling (R87); one examination by PSQ a period (log 12). The mirror
follows (R92, R118, R149, R167), one rewrite an effect (the model's choice: log 8). -/
def Obligations.SequencerTimersEndTheirStates : Prop :=
  let ready (dt p : Nat) (s : State) : Prop := s.resetting = none ∧ s.period = some p ∧ p + 250000 ≤ s.clock + dt
  let noneAged (s : State) : Prop := s.agedHistory = s.hbw.history
  ((∀ (dt : Nat) (s : State) (c : Countdown), s.resetting = none → s.psq.state = .cycling → s.psq.offTimer = some c →
      c.start + c.length ≤ s.clock + dt →
      ∃ t, exec (.offTimerExpiry dt) s = .next t ∧ t.psq = s.heatingFrom ∧ t.hbw = s.watchStopped ∧ MirrorFollows s t
        ∧ Unchanged [.clock, .psq, .hbw, .window] s t ∧ BytesKept [supervisionSpan] s t)
    ∧ (∀ (dt : Nat) (s : State) (t0 : Nat), s.resetting = none → s.psq.state = .holdoff → s.psq.reason = .escalation →
      s.psq.retry = some t0 → 0 < s.setting 72 → t0 + (s.setting 72).toNat * 60000000 ≤ s.clock + dt →
      ∃ t, exec (.retryTimerExpiry dt) s = .next t ∧ t.psq = s.heatingFrom ∧ t.hbw = s.watchStopped ∧ MirrorFollows s t
        ∧ Unchanged [.clock, .psq, .hbw, .window] s t ∧ BytesKept [supervisionSpan] s t)
    ∧ ∀ (dt : Nat) (s : State), s.resetting = none → s.setting 72 = 0 →
      exec (.retryTimerExpiry dt) s = .next { s with clock := s.clock + dt })
  ∧ (∀ (dt : Nat) (s : State) (c : Countdown), s.resetting = none → s.psq.state = .shutdown → s.psq.target = .standby →
      s.psq.delay = .running c → c.start + c.length ≤ s.clock + dt →
      ∃ t, exec (.delayTimerExpiry dt) s = .next t ∧ t.clock = s.clock + dt ∧ TakenDown s t ∧ MirrorFollows s t
        ∧ t.psq = { s.movedTo .standby with reason := .none, mainEn := false, hostReset := true }
        ∧ t.hbw = s.watchStopped ∧ t.exc = s.detachedForRestart ∧ MainOffTaken s t ∧ QuietReleased s t
        ∧ Unchanged [.clock, .psq, .hbw, .exc, .rpu, .zc, .kps, .window] s t
        ∧ BytesKept [anchorSpan, supervisionSpan, panelSpan, s.takenDown.queueSpan] s t)
  ∧ ((∀ (dt p : Nat) (ms : Vector Measurement 6) (turn : PsqTurn) (s : State), ready dt p s →
      ∃ t, exec (.controlPeriod dt ms turn) s = .next t
        ∧ (t.zc.source, t.zc.sourceValue) =
          (if t.sfe[0].status ≠ .failed ∧ t.sfe[0].filled = true then (OverheatSource.ts0, some t.sfe[0].filtered)
            else if t.sfe[5].status ≠ .failed ∧ t.sfe[5].filled = true then (.exhaust, some t.sfe[5].filtered)
            else (.none, none))
        ∧ (s.noOverheatDue → t.zc.dwell =
          match t.zc.sourceValue with
          | none => 0
          | some v => if s.setting 5 < v ∧ s.psq.state.railOn = true then min 40 (s.zc.dwell + 1) else 0))
    ∧ (∀ (dt p : Nat) (ms : Vector Measurement 6) (turn : PsqTurn) (s : State), ready dt p s → noneAged s → s.zc.dwell = 39 →
      s.psq.state.railOn = true →
      ∃ t, exec (.controlPeriod dt ms turn) s = .next t ∧ t.clock = s.clock + dt
        ∧ ∀ v : Int, t.zc.sourceValue = some v →
          if s.setting 5 < v then
            t.psq = { s.movedTo .holdoff with
              reason := .overheat, target := .holdoffOverheat, held := none, mainEn := false, hostReset := true }
            ∧ FailureTaken { s.failureRecord .overheat .protective .holdoff with z0Temp := t.zc.zones[0].used } s t
            ∧ TakenDown s t ∧ t.exc = s.detachedForRestart ∧ t.zc.dwell = 0 ∧ KeysQuieted s t
            ∧ (∀ n : Fin 4, t.zc.zones[n].state ≠ .ready ∧ (t.zc.zones[n].state = .tripped → t.zc.zones[n].wasReady = false))
          else t.psq = s.psq ∧ t.hbw = s.hbw ∧ t.exc = s.exc ∧ t.zc.dwell = 0)
    ∧ ∀ (dt p : Nat) (ms : Vector Measurement 6) (turn : PsqTurn) (s : State), ready dt p s → noneAged s →
      s.psq.state = .holdoff → s.psq.reason = .overheat →
      ∃ t, exec (.controlPeriod dt ms turn) s = .next t
        ∧ match t.zc.sourceValue with
          | none => t.psq = s.psq ∧ t.hbw = s.hbw
          | some v =>
            if v ≤ s.setting 4 - 160 then t.psq = s.heatingFrom ∧ t.hbw = s.watchStopped
            else t.psq = s.psq ∧ t.hbw = s.hbw)

/-- A watch expiry with a grace above 0 s (R100, R117, R188): phase GRACE toward the grace in force, PSQ in WARNED, WATCH_WARN
given, and WARN raised where the exchange is ATTACHED. No decision is made, so no intake trigger comes between. The mirror follows
(R92, R118, R149, R167), one rewrite an effect (the model's choice: log 8). -/
def Obligations.WatchExpiryStartsTheGrace : Prop :=
  ∀ (dt : Nat) (between : Option IntakeReach) (s : State) (c : Countdown) (g : Nat), s.resetting = none → s.psq.state = .running →
    s.hbw.phase = .watch → s.hbw.watch = some c → c.start + c.length ≤ s.clock + dt →
    g = (match s.hbw.source with
      | .settings => (s.setting 67).toNat
      | .order => s.hbw.orderGrace) → 0 < g → (s.rpu.view = none → s.exc.state = .detached) →
    ∃ t, exec (.watchTimerExpiry ⟨dt, between⟩) s = .next t
      ∧ t.hbw = { s.hbw with
        phase := .grace, watch := none, grace := some { start := s.clock + dt, length := g * 1000000 } }
      ∧ t.psq = s.movedTo .warned
      ∧ ReportGiven { kind := .watchWarn, source := 0, detail := s.hbw.source.code, value := g } s t
      ∧ (s.exc.state = .attached → t.rpu.pending.getLsbD 3 = true)
      ∧ (s.exc.state = .detached → t.rpu.pending = s.rpu.pending)
      ∧ MirrorFollows s t
      ∧ Unchanged [.clock, .psq, .hbw, .rpu, .window] s t
      ∧ BytesKept [anchorSpan, supervisionSpan, s.queueSpan] s t

/-- A commit of word 40 (R96, R97): the value HBW last saw is no heartbeat; another is one, and acts by the watch phase. The
mirror follows (R92, R118, R149, R167), one rewrite an effect (the model's choice: log 8). -/
def Obligations.HeartbeatActsByThePhase : Prop :=
  (∀ (dt : Nat) (v : Word) (s : State), s.resetting = none → v = s.hbw.lastValue →
    ∃ t, exec (.heartbeat dt v) s = .next t ∧ CommittedOnly 40 v s t)
  ∧ ∀ (dt : Nat) (v : Word) (s : State), s.resetting = none → v ≠ s.hbw.lastValue →
    ∃ t, exec (.heartbeat dt v) s = .next t
      ∧ t.mem.word 40 = v ∧ t.exc = { s.exc with staging := none }
      ∧ (let seen : HeartbeatWatch :=
          { s.hbw with lastValue := v, lastStamp := some s.uptime, count := s.hbw.count + 1 }
        let window : Nat := match s.hbw.source with
          | .settings => (s.setting 66).toNat
          | .order => s.hbw.orderWindow
        let armed (w : Nat) : HeartbeatWatch :=
          { seen with
            phase := .watch, boot := none, grace := none, watch := some { start := s.clock + dt, length := w * 1000000 } }
        let moved : Sequencer :=
          if s.psq.state = .booting ∨ s.psq.state = .warned then s.movedTo .running else s.psq
        match s.hbw.phase with
        | .none => t.hbw = seen ∧ t.psq = s.psq
        | .disarmed => t.hbw = seen ∧ t.psq = s.psq
        | .boot => t.hbw = { armed (s.setting 66).toNat with source := .settings } ∧ t.psq = moved
        | .watch => t.hbw = armed window ∧ t.psq = s.psq
        | .grace => t.hbw = armed window ∧ t.psq = moved)
      ∧ MirrorFollows s t
      ∧ Unchanged [.clock, .psq, .hbw, .exc, .window] s t ∧ BytesKept [(40, 41), supervisionSpan] s t

/-! ## The host's accesses -/

/-- Half-word pairing (R161, R162): a low half is staged, a high half commits the word with the staged half or the word's own, a
write to a word of the part is discarded; a commit of words 32, 38, 39 and 40 is EXC's command. -/
def Obligations.HalfWritesArePaired : Prop :=
  (∀ (dt : Nat) (w : WordAddr) (h : Half) (s : State), s.resetting = none → (w.toNat < 32 ∨ 64 ≤ w.toNat ∧ w.toNat < 256) →
    exec (.windowLowHalfWrite dt w h) s = .next { s with clock := s.clock + dt }
    ∧ exec (.windowHighHalfWrite dt w h) s = .next { s with clock := s.clock + dt })
  ∧ (∀ (dt : Nat) (w : WordAddr) (h : Half) (s : State), s.resetting = none →
    (32 ≤ w.toNat ∧ w.toNat < 64 ∨ 256 ≤ w.toNat) →
    exec (.windowLowHalfWrite dt w h) s = .next
      { s with clock := s.clock + dt, exc := { s.exc with staging := some { word := w, half := h } } })
  ∧ (∀ (dt : Nat) (w : WordAddr) (h : Half) (s : State), s.resetting = none →
    (32 ≤ w.toNat ∧ w.toNat < 64 ∨ 256 ≤ w.toNat) → w.toNat ≠ 32 → w.toNat ≠ 38 → w.toNat ≠ 39 → w.toNat ≠ 40 →
    ∃ t, exec (.windowHighHalfWrite dt w h) s = .next t ∧ CommittedOnly w.toNat (h ++ s.lowHalfFor w) s t)
  ∧ (∀ (dt : Nat) (h : Half) (s : State), h ++ s.lowHalfFor 32 = 1#32 →
    exec (.windowHighHalfWrite dt 32 h) s = exec (.attach dt) s)
  ∧ (∀ (dt : Nat) (h : Half) (s : State), h ++ s.lowHalfFor 32 = 2#32 →
    exec (.windowHighHalfWrite dt 32 h) s = exec (.detach dt) s)
  ∧ (∀ (dt : Nat) (h : Half) (s : State), s.resetting = none → h ++ s.lowHalfFor 32 ≠ 1#32 → h ++ s.lowHalfFor 32 ≠ 2#32 →
    ∃ t, exec (.windowHighHalfWrite dt 32 h) s = .next t ∧ CommittedOnly 32 (h ++ s.lowHalfFor 32) s t)
  ∧ ∀ (dt : Nat) (h : Half) (s : State),
    exec (.windowHighHalfWrite dt 38 h) s = exec (.orderWriteIndex dt (h ++ s.lowHalfFor 38)) s
    ∧ exec (.windowHighHalfWrite dt 39 h) s = exec (.reportReadIndex dt (h ++ s.lowHalfFor 39)) s
    ∧ exec (.windowHighHalfWrite dt 40 h) s = exec (.heartbeat dt (h ++ s.lowHalfFor 40)) s

/-- The read latch (R163): a low-half read returns the low half and captures the high half of that moment; a high-half read of
the word in the latch returns the captured half and empties the latch, any other returns the word's own and leaves the latch.
That a read in LOADING is answered so inside EXC, while HD0 to HD15 are not driven, is the model's choice (log 45). -/
def Obligations.HalfReadsAreLatched : Prop :=
  (∀ (dt : Nat) (w : WordAddr) (s : State), s.resetting = none →
    exec (.windowLowHalfRead dt w) s = .next
      { s with
        clock := s.clock + dt
        exc := { s.exc with
          busData := some ((s.mem.word w.toNat).extractLsb' 0 16)
          readLatch := some { word := w, half := (s.mem.word w.toNat).extractLsb' 16 16 } } })
  ∧ (∀ (dt : Nat) (w : WordAddr) (h : Half) (s : State), s.resetting = none →
    s.exc.readLatch = some { word := w, half := h } →
    exec (.windowHighHalfRead dt w) s = .next
      { s with clock := s.clock + dt, exc := { s.exc with busData := some h, readLatch := none } })
  ∧ (∀ (dt : Nat) (w : WordAddr) (s : State), s.resetting = none →
    (∀ l, s.exc.readLatch = some l → l.word ≠ w) →
    exec (.windowHighHalfRead dt w) s = .next
      { s with
        clock := s.clock + dt
        exc := { s.exc with busData := some ((s.mem.word w.toNat).extractLsb' 16 16) } })
  ∧ ∀ s : State, State.reset.exc.readLatch = none ∧ (s.partReset .supply).exc.readLatch = none
    ∧ (s.partReset .pin).exc.readLatch = none

/-- ATTACH (R168, R169, R170, R187): ignored while HOST_RESET is asserted; with every check passed the layout, both indices and
RPU's view are taken, and held reports are drained into the queue, which is empty then (R186); with a check failed the exchange is
left DETACHED with LAYOUT raised. DETACH (R170): taken while ATTACHED, ignored while DETACHED. -/
def Obligations.AttachAndDetachAreTaken : Prop :=
  ((∀ (dt : Nat) (s : State), s.resetting = none → s.psq.hostReset = true →
      ∃ t, exec (.attach dt) s = .next t ∧ CommittedOnly 32 1#32 s t)
    ∧ (∀ (dt : Nat) (s : State), s.resetting = none → s.psq.hostReset = false → s.attachVerdict = .ok →
      ∃ t, exec (.attach dt) s = .next t ∧ t.mem.word 32 = 1#32
        ∧ t.exc = { s.exc with
          state := .attached, reason := .none, result := .ok, attachCount := s.exc.attachCount + 1, staging := none
          layout := { orderBase := (s.mem.word 34).toNat, orderMask := (s.mem.word 35).toNat,
                      reportBase := (s.mem.word 36).toNat, reportMask := (s.mem.word 37).toNat }
          readIndex := (s.mem.word 38).extractLsb' 0 16, lastOrder := 0
          inHand := s.exc.inHand.map fun h => { h with discard := true } }
        ∧ Drained { base := (s.mem.word 36).toNat, mask := (s.mem.word 37).toNat } ((s.mem.word 39).extractLsb' 0 16)
          ((s.mem.word 39).extractLsb' 0 16) s t
        ∧ Unchanged [.clock, .exc, .rpu, .window] s t ∧ BytesKept [anchorSpan, (32, 33), t.queueSpan] s t)
    ∧ ∀ (dt : Nat) (s : State), s.resetting = none → s.psq.hostReset = false → s.attachVerdict ≠ .ok →
      ∃ t, exec (.attach dt) s = .next t ∧ t.mem.word 32 = 1#32
        ∧ t.exc = { s.exc with
          state := .detached, reason := .attachFailed, result := s.attachVerdict, attachCount := s.exc.attachCount + 1
          staging := none
          inHand := if s.exc.state = .attached then s.exc.inHand.map fun h => { h with discard := true } else s.exc.inHand }
        ∧ t.rpu = { s.rpu with
          view := if s.exc.state = .attached then none else s.rpu.view
          pending := s.rpu.pending ||| 4#4, attn := decide ((s.rpu.pending ||| 4#4) &&& s.exc.enable ≠ 0#4) }
        ∧ Unchanged [.clock, .exc, .rpu, .window] s t ∧ BytesKept [anchorSpan, (32, 33)] s t)
  ∧ ((∀ (dt : Nat) (s : State), s.resetting = none → s.exc.state = .attached →
      ∃ t, exec (.detach dt) s = .next t ∧ t.mem.word 32 = 2#32
        ∧ t.exc = { s.exc with
          state := .detached, reason := .hostRequest, staging := none
          inHand := s.exc.inHand.map fun h => { h with discard := true } }
        ∧ t.rpu = { s.rpu with view := none }
        ∧ Unchanged [.clock, .exc, .rpu, .window] s t ∧ BytesKept [anchorSpan, (32, 33)] s t)
    ∧ ∀ (dt : Nat) (s : State), s.resetting = none → s.exc.state = .detached →
      ∃ t, exec (.detach dt) s = .next t ∧ CommittedOnly 32 2#32 s t)

/-- Commits of words 38 and 39 (R171): while ATTACHED an index too far from the part's detaches with LAYOUT; else the word is
stored, and a commit of word 39 offers room, into which held reports are drained (R186); while DETACHED nobody checks. -/
def Obligations.QueueIndicesAreChecked : Prop :=
  let fault (write : BitVec 16) (read : BitVec 16) (s : State) : Prop :=
    s.exc.layout.orderMask + 1 < (write - s.exc.readIndex).toNat
    ∨ s.exc.layout.reportMask + 1 < (s.rpu.writeIndex - read).toNat
  let detached (w : Nat) (v : Word) (s t : State) : Prop :=
    t.mem.word w = v
    ∧ t.exc = { s.exc with
        state := .detached, reason := .indexFault, staging := none
        inHand := s.exc.inHand.map fun h => { h with discard := true } }
    ∧ t.rpu = { s.rpu with
        view := none, pending := s.rpu.pending ||| 4#4
        attn := decide ((s.rpu.pending ||| 4#4) &&& s.exc.enable ≠ 0#4) }
    ∧ Unchanged [.clock, .exc, .rpu, .window] s t ∧ BytesKept [anchorSpan, (w, w + 1)] s t
  (∀ (dt : Nat) (v : Word) (s : State), s.resetting = none →
    (s.exc.state = .attached → ¬ fault (v.extractLsb' 0 16) ((s.mem.word 39).extractLsb' 0 16) s) →
    ∃ t, exec (.orderWriteIndex dt v) s = .next t ∧ CommittedOnly 38 v s t)
  ∧ (∀ (dt : Nat) (v : Word) (s : State), s.resetting = none → s.exc.state = .attached →
    fault (v.extractLsb' 0 16) ((s.mem.word 39).extractLsb' 0 16) s →
    ∃ t, exec (.orderWriteIndex dt v) s = .next t ∧ detached 38 v s t)
  ∧ (∀ (dt : Nat) (v : Word) (s : State), s.resetting = none →
    (s.exc.state = .attached → ¬ fault ((s.mem.word 38).extractLsb' 0 16) (v.extractLsb' 0 16) s ∧ s.rpu.holding = []
      ∧ s.rpu.discards = 0) →
    ∃ t, exec (.reportReadIndex dt v) s = .next t ∧ CommittedOnly 39 v s t)
  ∧ (∀ (dt : Nat) (v : Word) (q : QueueView) (s : State), s.resetting = none → s.exc.state = .attached →
    ¬ fault ((s.mem.word 38).extractLsb' 0 16) (v.extractLsb' 0 16) s → s.rpu.view = some q → q.ok →
    ∃ t, exec (.reportReadIndex dt v) s = .next t ∧ t.mem.word 39 = v ∧ t.exc = { s.exc with staging := none }
      ∧ Drained q s.rpu.writeIndex (v.extractLsb' 0 16) s t
      ∧ Unchanged [.clock, .exc, .rpu, .window] s t ∧ BytesKept [anchorSpan, (39, 40), s.queueSpan] s t)
  ∧ ∀ (dt : Nat) (v : Word) (s : State), s.resetting = none → s.exc.state = .attached →
    fault ((s.mem.word 38).extractLsb' 0 16) (v.extractLsb' 0 16) s →
    ∃ t, exec (.reportReadIndex dt v) s = .next t ∧ detached 39 v s t

/-- The registers (R164, R189): NOTICE clears the causes written 1, NOTICE ENABLE takes bits 0 to 3, IDENT ignores a write, and
ATTN follows at once; what a read of each returns. -/
def Obligations.RegistersAnswerTheHost : Prop :=
  (∀ (dt : Nat) (v : Half) (s : State), s.resetting = none →
    exec (.notice dt v) s = .next
      { s with
        clock := s.clock + dt
        rpu := { s.rpu with
          pending := s.rpu.pending &&& ~~~(v.setWidth 4)
          attn := decide (s.rpu.pending &&& ~~~(v.setWidth 4) &&& s.exc.enable ≠ 0#4) } })
  ∧ (∀ (dt : Nat) (v : Half) (s : State), s.resetting = none →
    exec (.noticeEnable dt v) s = .next
      { s with
        clock := s.clock + dt
        exc := { s.exc with enable := v.setWidth 4 }
        rpu := { s.rpu with attn := decide (s.rpu.pending &&& v.setWidth 4 ≠ 0#4) } })
  ∧ (∀ (dt : Nat) (v : Half) (s : State), s.resetting = none →
    exec (.registerWriteIgnored dt v) s = .next { s with clock := s.clock + dt })
  ∧ ∀ s : State, s.registerRead 0 = 0x2901#16 ∧ s.registerRead 1 = 0#16
    ∧ s.registerRead 2 = s.rpu.pending.setWidth 16 ∧ s.registerRead 3 = s.exc.enable.setWidth 16

/-- The intake triggers (R172, R173, R174, R176): NUDGE and the poll timer's expiry each take, carry out and answer a NO_OP that
is the only order in the queue, or write UNKNOWN for a code that is no order's; with nothing to take a NUDGE changes nothing.
Carried no further than the take (log 7), they leave the order in hand with its result, its entry unanswered. -/
def Obligations.IntakeTriggersAnswerAnOrder : Prop :=
  let ready (r : OrderRecord) (s : State) : Prop :=
    s.resetting = none ∧ s.exc.state = .attached ∧ s.exc.inHand = none ∧ s.recordAt s.orderSlot = r ∧ r.void = false
  let alone (s : State) : Prop := s.exc.readIndex + 1 = s.orderWrite ∧ entryInHostArea s.orderSlot ∧ s.noOwnerWaits
  let answered (r : OrderRecord) (res : OrderResult) (poll : Timer) (s t : State) : Prop :=
    AnsweredAt { record := r, entry := s.orderSlot, discard := false, result := some res } res t
    ∧ t.exc = { s.exc with readIndex := s.exc.readIndex + 1, lastOrder := r.code, poll := poll }
    ∧ t.rpu = { s.rpu with
        pending := s.rpu.pending ||| 1#4, attn := decide ((s.rpu.pending ||| 1#4) &&& s.exc.enable ≠ 0#4) }
    ∧ Unchanged [.clock, .exc, .rpu, .window] s t
    ∧ BytesKept [(6, 7), (13, 14), (s.orderSlot, s.orderSlot + 1), (s.orderSlot + 6, s.orderSlot + 8)] s t
  let inHand (r : OrderRecord) (res : OrderResult) (poll : Timer) (s t : State) : Prop :=
    t.exc = { s.takenWith r (some res) with poll := poll }
    ∧ Unchanged [.clock, .exc, .window] s t ∧ BytesKept [(13, 14)] s t
  let result (r : OrderRecord) (res : OrderResult) (s : State) : Prop :=
    r.code = 1 ∧ r.operands.all (· == 0#32) = true
      ∧ res = { outcome := .done, value := s.uptime, detail := BitVec.ofNat 32 s.rpu.holding.length }
    ∨ (r.code = 0 ∨ 15 ≤ r.code) ∧ res = { outcome := .unknown, value := 0#32, detail := 0#32 }
  let noneHeld (s : State) : Prop := s.rpu.holding = [] ∧ s.rpu.discards = 0
  (∀ (dt : Nat) (v : Half) (r : OrderRecord) (res : OrderResult) (s : State), ready r s → alone s → result r res s →
    ∃ t, exec (.nudge ⟨dt, .toAnswer⟩ v) s = .next t ∧ answered r res s.exc.poll s t)
  ∧ (∀ (dt : Nat) (v : Half) (r : OrderRecord) (res : OrderResult) (s : State), ready r s → s.exc.readIndex ≠ s.orderWrite →
    result r res s → ∃ t, exec (.nudge ⟨dt, .toTake⟩ v) s = .next t ∧ inHand r res s.exc.poll s t)
  ∧ (∀ (dt : Nat) (r : OrderRecord) (res : OrderResult) (s : State) (t0 : Nat), ready r s → alone s → result r res s →
    s.exc.poll = some t0 → t0 + 50000 ≤ s.clock + dt → noneHeld s →
    ∃ t, exec (.intakePollTimerExpiry ⟨dt, .toAnswer⟩) s = .next t ∧ answered r res (some (s.clock + dt)) s t)
  ∧ (∀ (dt : Nat) (r : OrderRecord) (res : OrderResult) (s : State) (t0 : Nat), ready r s → s.exc.readIndex ≠ s.orderWrite →
    result r res s → s.exc.poll = some t0 → t0 + 50000 ≤ s.clock + dt → noneHeld s →
    ∃ t, exec (.intakePollTimerExpiry ⟨dt, .toTake⟩) s = .next t ∧ inHand r res (some (s.clock + dt)) s t)
  ∧ ∀ (dt : Nat) (v : Half) (reach : IntakeReach) (s : State), s.resetting = none → s.nothingToTake →
    exec (.nudge ⟨dt, reach⟩ v) s = .next { s with clock := s.clock + dt }

/-- A drain (R186, R184): with no order to take, the poll timer's expiry writes the held reports into the queue in their order, as
many as the queue has room for, then OVERFLOW where reports were discarded and room is left, and raises REPORT; a detached view
keeps them. -/
def Obligations.PollDrainsTheHoldingList : Prop :=
  (∀ (dt : Nat) (reach : IntakeReach) (s : State) (t0 : Nat) (q : QueueView), s.resetting = none → s.exc.poll = some t0 →
    t0 + 50000 ≤ s.clock + dt → s.exc.state = .attached → s.nothingToTake → s.rpu.view = some q → q.ok →
    ∃ t, exec (.intakePollTimerExpiry ⟨dt, reach⟩) s = .next t
      ∧ t.exc = { s.exc with poll := some (s.clock + dt) }
      ∧ Drained q s.rpu.writeIndex ((s.mem.word 39).extractLsb' 0 16) s t
      ∧ Unchanged [.clock, .exc, .rpu, .window] s t ∧ BytesKept [anchorSpan, s.queueSpan] s t)
  ∧ ∀ (dt : Nat) (reach : IntakeReach) (s : State) (t0 : Nat), s.resetting = none → s.exc.poll = some t0 →
    t0 + 50000 ≤ s.clock + dt → s.nothingToTake → s.rpu.view = none →
    exec (.intakePollTimerExpiry ⟨dt, reach⟩) s = .next
      { s with clock := s.clock + dt, exc := { s.exc with poll := some (s.clock + dt) } }

/-- What the full holding list gives up (R185): a KEY_REPEAT arrival; else its oldest KEY_REPEAT; else its oldest matched pair, a
KEY_DOWN whose press is closed in the list, whatever unmatched KEY_DOWN stands before it; else the arrival. It keeps the order of
what is left, never grows past 16, and gives up no report other than key events. A KEY_REPEAT and a WATCH_WARN that meet a full
list at their commands leave the list so, and the discards counted. -/
def Obligations.FullHoldingListGivesUpKeyEvents : Prop :=
  ((∀ (held : List Report) (r : Report), held.length = 16 → r.kind = .keyRepeat → takeIn held r = (held, 1))
    ∧ (∀ (front back : List Report) (x r : Report), (front ++ x :: back).length = 16 → r.kind ≠ .keyRepeat →
      (∀ y ∈ front, y.kind ≠ .keyRepeat) → x.kind = .keyRepeat →
      takeIn (front ++ x :: back) r = (front ++ back ++ [r], 1))
    ∧ (∀ (held : List Report) (r : Report), held.length = 16 → r.kind ≠ .keyRepeat → (∀ y ∈ held, y.kind ≠ .keyRepeat) →
      (∀ (a b : List Report) (d : Report), held = a ++ d :: b → d.kind = .keyDown → ¬ pressClosed d b) →
      takeIn held r = (held, 1))
    ∧ (∀ (front mid back : List Report) (d u r : Report), (front ++ d :: (mid ++ u :: back)).length = 16 →
      r.kind ≠ .keyRepeat → (∀ y ∈ front ++ d :: (mid ++ u :: back), y.kind ≠ .keyRepeat) →
      (∀ (a b : List Report) (e : Report), front = a ++ e :: b → e.kind = .keyDown →
        ¬ pressClosed e (b ++ d :: (mid ++ u :: back))) →
      d.kind = .keyDown → u.kind = .keyUp → u.source = d.source →
      (∀ y ∈ mid, y.kind.isKey = true → y.source ≠ d.source) →
      takeIn (front ++ d :: (mid ++ u :: back)) r = (front ++ (mid ++ back) ++ [r], 2))
    ∧ ∀ (held : List Report) (r : Report), held.length ≤ 16 →
      (takeIn held r).1.length ≤ 16 ∧ (takeIn held r).1.Sublist (held ++ [r])
      ∧ (takeIn held r).1.length + (takeIn held r).2 = held.length + 1
      ∧ ∀ y ∈ held, y.kind.isKey = false → y ∈ (takeIn held r).1)
  ∧ (∀ (dt : Nat) (p : Position) (s : State) (t0 : Nat), s.resetting = none → (s.entry p).used = true →
    (s.entry p).cls = .repeating → (s.entry p).routing ≠ .localOnly → (s.key p).mask = .none → (s.key p).repeatTimer = some t0 →
    t0 + (s.setting 82).toNat * 1000 ≤ s.clock + dt → s.rpu.view = none → s.rpu.holding.length = 16 →
    ∃ t, exec (.repeatInterval dt p) s = .next t
      ∧ t.rpu = { s.rpu with discards := min 65535 (s.rpu.discards + 1), created := s.rpu.created + 1 }
      ∧ t.kps.reports = s.kps.reports + 1)
  ∧ ∀ (dt : Nat) (s : State) (c : Countdown) (r : Report), s.resetting = none → s.hbw.phase = .watch → s.hbw.watch = some c →
    c.start + c.length ≤ s.clock + dt → s.hbw.source = .order → 0 < s.hbw.orderGrace → s.exc.state = .detached →
    s.rpu.view = none → s.rpu.holding.length = 16 →
    r = s.reportOf { kind := .watchWarn, source := 0, detail := 1, value := s.hbw.orderGrace } →
    ∃ t, exec (.watchTimerExpiry ⟨dt, none⟩) s = .next t
      ∧ t.rpu = { s.rpu with
        holding := (takeIn s.rpu.holding r).1, discards := min 65535 (s.rpu.discards + (takeIn s.rpu.holding r).2)
        created := s.rpu.created + 1 }

/-! ## The orders -/

/-- The orders that inquire or clear (R176, R193, R63, R114): NO_OP, READ_SETTING, RESET_FILTER and CLEAR_HISTORY, taken and
carried out. READ_SETTING knows the numbers of R190 alone. After CLEAR_HISTORY the supervision section shows the new history
count and history update count, its own count another than before (R112, R118). -/
def Obligations.InquiriesAndClears : Prop :=
  (∀ (dt : Nat) (r : OrderRecord) (s : State), s.offers .noOp r →
    ∃ t, exec (.noOp dt .carryOut) s = .next t
      ∧ t.exc = s.takenWith r
        (some { outcome := .done, value := s.uptime, detail := BitVec.ofNat 32 s.rpu.holding.length })
      ∧ Unchanged [.clock, .exc, .window] s t ∧ BytesKept [(13, 14)] s t)
  ∧ (∀ (dt : Nat) (r : OrderRecord) (s : State), s.offers .readSetting r → isKnown r.w1.toNat = true →
    ∃ t, exec (.readSetting dt .carryOut) s = .next t
      ∧ t.exc = s.takenWith r (some
        { outcome := .done, value := BitVec.ofInt 32 (s.setting r.w1.toNat)
          detail := BitVec.ofInt 32 (settingAt defaultTable r.w1.toNat) })
      ∧ Unchanged [.clock, .exc, .window] s t ∧ BytesKept [(13, 14)] s t)
  ∧ (∀ (dt : Nat) (r : OrderRecord) (s : State), s.offers .readSetting r → isKnown r.w1.toNat = false →
    ∃ t, exec (.readSetting dt .carryOut) s = .next t ∧ RefusedWith r .badOperand s t)
  ∧ (∀ (dt : Nat) (r : OrderRecord) (s : State), s.offers .resetFilter r →
    ∃ t, exec (.resetFilter dt .carryOut) s = .next t
      ∧ t.exc = s.takenWith r (some
        { outcome := .done, value := BitVec.ofNat 32 s.fc.clog
          detail := if s.fc.filterFlag = true then 1#32 else 0#32 })
      ∧ t.fc = { s.fc with clog := 0, filterFlag := false }
      ∧ Unchanged [.clock, .exc, .fc, .window] s t ∧ BytesKept [(13, 14)] s t)
  ∧ ∀ (dt : Nat) (r : OrderRecord) (s : State), s.offers .clearHistory r →
    ∃ t, exec (.clearHistory dt .carryOut) s = .next t
      ∧ t.exc = s.takenWith r (some
        { outcome := .done, value := BitVec.ofNat 32 s.hbw.history.length, detail := BitVec.ofNat 32 s.hbw.nextSeq })
      ∧ t.hbw = { s.hbw with history := [], historyUpdates := s.hbw.historyUpdates + 1 }
      ∧ (∀ w : Nat, 192 ≤ w → w < 256 → t.mem.word w = 0#32)
      ∧ t.mem.wordsFrom 129 30 = t.supervisionBody ∧ t.mem.word 128 = t.mem.word 159 ∧ t.mem.word 128 ≠ s.mem.word 128
      ∧ (t.mem.word 132).extractLsb' 12 4 = 0#4 ∧ t.mem.word 139 = s.hbw.historyUpdates + 1
      ∧ Unchanged [.clock, .exc, .hbw, .window] s t ∧ BytesKept [(13, 14), supervisionSpan, historySpan] s t

/-- WRITE_SETTING (R192, R194): the value is brought into its range and stored, CLAMPED where that changed it; an unknown number
is refused. Seven settings are compared with running times at once: 72 with the retry timer (R89), 81 to 83 with each key's hold
and repeat (R123, R133, R137), 85 with each CHATTER key's quiet timer (R139), 86 with the chord (R141) and with each
OPERATOR_RESTART key's hold (R135), 87 with the service window (R143). What they find due follows as at an expiry, the keys in
ascending position and the chord before the keys (the model's order: logs 31, 35, 36), an OPERATOR failure arriving at once
unless delayed (log 43). Every other setting leaves the rest alone. The mirror follows (R92, R118, R149, R167), one rewrite an
effect (the model's choice: log 8). -/
def Obligations.SettingWritesAreClamped : Prop :=
  let stored (n : Nat) (v : Int) (s : State) : Int :=
    if 96 ≤ n ∧ n ≤ 101 then (if v < 0 then 0 else if 15 < v then 255 else v)
    else if v < (boundsOf s.sst.table n).1 then (boundsOf s.sst.table n).1
    else if (boundsOf s.sst.table n).2 < v then (boundsOf s.sst.table n).2
    else v
  let result (n : Nat) (v : Int) (s : State) : OrderResult :=
    { outcome := if stored n v s = v then .done else .clamped, value := BitVec.ofInt 32 (stored n v s)
      detail := BitVec.ofInt 32 (s.setting n) }
  let value (r : OrderRecord) (s : State) : Nat := (stored r.w1.toNat r.w2.toInt s).toNat
  let chordDue (dt : Nat) (r : OrderRecord) (s : State) : Bool :=
    decide (s.kps.chord = .holding) && elapsedBy (s.clock + dt) s.kps.chordTimer (value r s * 1000000)
  let noRestart (dt : Nat) (r : OrderRecord) (s : State) : Prop :=
    (∀ p : Position, s.operatorIdle (s.clock + dt) (value r s) p) ∨ chordDue dt r s = false ∧ s.kps.window = none
  let calm (s t : State) : Prop := Unchanged [.clock, .exc, .sst, .kps, .rpu, .window] s t
  let setOff (n v : Nat) (s t : State) : Prop :=
    let repeats (p : Position) : Bool :=
      (s.entry p).used && decide ((s.entry p).cls = .repeating ∧ (s.entry p).routing ≠ .localOnly ∧ (s.key p).mask = .none)
    match n with
    | 72 =>
      let due : Prop := s.psq.state = .holdoff ∧ s.psq.reason = .escalation ∧ 0 < v
        ∧ elapsedBy t.clock s.psq.retry (v * 60000000) = true
      (due → t.psq = s.heatingFrom ∧ t.hbw = s.watchStopped) ∧ (¬ due → t.psq = s.psq ∧ t.hbw = s.hbw)
      ∧ Unchanged [.clock, .exc, .sst, .psq, .hbw, .window] s t
    | 81 =>
      KeysActed
        (fun p => repeats p && decide ((s.key p).repeatNo = 0 ∧ (s.key p).repeatTimer = none)
          && elapsedBy t.clock (s.key p).hold (v * 1000))
        (fun p => { s.key p with repeatNo := 1, repeatTimer := some t.clock }) .keyRepeat (fun _ => 1) s t
      ∧ t.kps = { s.kps with keys := t.kps.keys, reports := t.kps.reports } ∧ calm s t
    | 82 =>
      let no (p : Position) : Nat := min 255 ((s.key p).repeatNo + 1)
      KeysActed (fun p => repeats p && elapsedBy t.clock (s.key p).repeatTimer (v * 1000))
        (fun p => { s.key p with repeatNo := no p, repeatTimer := some t.clock }) .keyRepeat no s t
      ∧ t.kps = { s.kps with keys := t.kps.keys, reports := t.kps.reports } ∧ calm s t
    | 83 =>
      let due (p : Position) : Bool :=
        (s.entry p).used && decide ((s.key p).mask = .none) && elapsedBy t.clock (s.key p).hold (v * 1000000)
      KeysActed due (fun p => { s.key p with mask := .stuck, hold := none, repeatTimer := none }) .keyMasked (fun _ => 1) s t
      ∧ ChordExamined (∃ p : Position, due p = true ∧ s.isMember p) s t
      ∧ t.kps = { s.kps with
        keys := t.kps.keys, reports := t.kps.reports, chord := t.kps.chord, chordTimer := t.kps.chordTimer }
      ∧ calm s t
    | 85 =>
      let due (p : Position) : Bool :=
        (s.entry p).used && decide ((s.key p).mask = .chatter ∧ (s.key p).deb = false)
          && elapsedBy t.clock (s.key p).quiet
            (v * (if s.psq.state = .standby ∨ s.psq.state = .holdoff then 100000 else 1000000))
      KeysActed due (fun p => { s.key p with mask := .none, transitions := 0 }) .keyUnmasked (fun _ => 1) s t
      ∧ ChordExamined (∃ p : Position, due p = true ∧ s.isMember p) s t
      ∧ t.kps = { s.kps with
        keys := t.kps.keys, reports := t.kps.reports, chord := t.kps.chord, chordTimer := t.kps.chordTimer }
      ∧ calm s t
    | 86 =>
      if s.kps.chord = .holding ∧ elapsedBy t.clock s.kps.chordTimer (v * 1000000) = true then ChordFired s t
      else t.kps = s.kps ∧ calm s t ∧ t.rpu = s.rpu
    | _ =>
      t.kps = { s.kps with window := if elapsedBy t.clock s.kps.window (v * 1000000) = true then none else s.kps.window }
      ∧ calm s t ∧ t.rpu = s.rpu
  (∀ (dt : Nat) (r : OrderRecord) (s : State), s.offers .writeSetting r → isKnown r.w1.toNat = false →
    ∃ t, exec (.writeSetting dt .carryOut) s = .next t ∧ RefusedWith r .badOperand s t)
  ∧ (∀ (dt : Nat) (r : OrderRecord) (s : State), s.offers .writeSetting r → isKnown r.w1.toNat = true →
    r.w1.toNat ∉ [72, 81, 82, 83, 85, 86, 87] →
    ∃ t, exec (.writeSetting dt .carryOut) s = .next t
      ∧ t.exc = s.takenWith r (some (result r.w1.toNat r.w2.toInt s))
      ∧ t.sst = { s.sst with table := t.sst.table }
      ∧ (∀ m : Nat, t.setting m = if m = r.w1.toNat then stored m r.w2.toInt s else s.setting m)
      ∧ MirrorFollows s t
      ∧ Unchanged [.clock, .exc, .sst, .window] s t ∧ BytesKept [(13, 14), supervisionSpan] s t)
  ∧ (∀ (dt : Nat) (r : OrderRecord) (s : State), s.offers .writeSetting r → r.w1.toNat ∈ [72, 81, 82, 83, 85, 86, 87] →
    ∃ t, exec (.writeSetting dt .carryOut) s = .next t
      ∧ (∃ h, t.exc.inHand = some h ∧ h.record = r ∧ h.result = some (result r.w1.toNat r.w2.toInt s))
      ∧ t.exc.lastOrder = r.code
      ∧ t.sst = { s.sst with table := t.sst.table }
      ∧ (∀ m : Nat, t.setting m = if m = r.w1.toNat then stored m r.w2.toInt s else s.setting m)
      ∧ MirrorFollows s t
      ∧ Unchanged [.clock, .exc, .sst, .psq, .hbw, .zc, .kps, .ind, .rpu, .window] s t
      ∧ BytesKept [anchorSpan, supervisionSpan, panelSpan, historySpan, s.queueSpan] s t)
  ∧ (∀ (dt : Nat) (r : OrderRecord) (s : State), s.offers .writeSetting r →
    r.w1.toNat ∈ [72, 81, 82, 83, 85, 87] ∨ r.w1.toNat = 86 ∧ noRestart dt r s →
    ∃ t, exec (.writeSetting dt .carryOut) s = .next t ∧ t.clock = s.clock + dt
      ∧ t.exc = s.takenWith r (some (result r.w1.toNat r.w2.toInt s)) ∧ setOff r.w1.toNat (value r s) s t)
  ∧ (∀ (dt : Nat) (r : OrderRecord) (p : Position) (s : State), s.offers .writeSetting r → r.w1.toNat = 86 →
    s.operatorFirst (s.clock + dt) (value r s) p → s.kps.operatorLate = false → s.psq.held = none →
    chordDue dt r s = true ∨ s.kps.window ≠ none →
    ∃ t, exec (.writeSetting dt .carryOut) s = .next t ∧ t.clock = s.clock + dt
      ∧ t.key p = { s.key p with done := true } ∧ OperatorRestarted r.code s t
      ∧ t.exc = ({ s with exc := s.takenWith r (some (result 86 r.w2.toInt s)) } : State).detachedForRestart
      ∧ (chordDue dt r s = true → WindowOpened s t
        ∧ (∀ q : Position, q ≠ p → (s.key q).mask ≠ .chatter → t.key q = s.key q)
        ∧ t.rpu.holding = (s.createReports s.fireReports).rpu.holding
        ∧ t.rpu.created = (s.createReports s.fireReports).rpu.created
        ∧ ∀ w : Nat, 256 ≤ w → t.mem.word w = (s.createReports s.fireReports).mem.word w)
      ∧ (chordDue dt r s = false → t.kps = { s.kps with keys := s.kps.keys.set p { s.key p with done := true } }
        ∧ t.rpu.holding = s.rpu.holding ∧ t.rpu.created = s.rpu.created))
  ∧ ∀ (dt : Nat) (r : OrderRecord) (s : State), s.offers .writeSetting r → r.w1.toNat = 86 → chordDue dt r s = false →
    s.kps.window ≠ none → s.kps.operatorLate = true →
    ∃ t, exec (.writeSetting dt .carryOut) s = .next t
      ∧ (∀ p : Position, t.key p =
        if s.operatorReady (s.clock + dt) (value r s) p = true then { s.key p with done := true } else s.key p)
      ∧ t.kps = { s.kps with
        keys := t.kps.keys
        operatorSent := s.kps.operatorSent + (List.finRange 48).countP (s.operatorReady (s.clock + dt) (value r s)) }
      ∧ Unchanged [.clock, .exc, .sst, .kps, .window] s t

/-- STORE_SETTINGS and its ends (R197, R174): the copy is taken and the intake stays BUSY; a read-back of all 153 words, a
missing answer, or 400 ms end the store, whose outcome is then written, or not, where the order in hand is to be discarded, be
the exchange DETACHED or, after a re-attach (R169), ATTACHED with nothing in its queue. A missing answer is taken from 10 ms
after the store began (log 38), and the copy is none once the store has ended (log 39). -/
def Obligations.StoreIsBegunAndEnded : Prop :=
  let storing (h : OrderInHand) (s : State) : Prop := s.noOwnerWaits ∧ s.sst.store = .storing ∧ h.result = none
  let ended (h : OrderInHand) (res : OrderResult) (s t : State) : Prop :=
    t.sst = { s.sst with store := .idle, copy := none } ∧ AnsweredOnly h res s t
    ∧ Unchanged [.clock, .exc, .rpu, .sst, .window] s t
  let discarded (dt : Nat) (s : State) : State :=
    { s with
      clock := s.clock + dt, sst := { s.sst with store := .idle, copy := none }, exc := { s.exc with inHand := none } }
  let failed (w d : Nat) : OrderResult := { outcome := .failed, value := BitVec.ofNat 32 w, detail := BitVec.ofNat 32 d }
  let ends (dt : Nat) (c : IntakeReach → Instr) (res : OrderResult) (s : State) : Prop :=
    (∃ k, s.sst.copy = some k ∧ c = (fun n => .storeSettingsEnd ⟨dt, n⟩ (.words (imageOf k)))
      ∧ res = { outcome := .done, value := 153#32, detail := 0#32 })
    ∨ (∃ k ws i, s.sst.copy = some k ∧ ws.length = 153 ∧ i < 153 ∧ (∀ j : Nat, j < i → ws[j]? = (imageOf k)[j]?)
      ∧ ws[i]? ≠ (imageOf k)[i]? ∧ c = (fun n => .storeSettingsEnd ⟨dt, n⟩ (.words ws)) ∧ res = failed i 2)
    ∨ ∃ w : Fin 153, c = (fun n => .storeSettingsEnd ⟨dt, n⟩ (.noAnswer w)) ∧ res = failed w.val 1
      ∨ c = (fun n => .eepromAckTimeout ⟨dt, n⟩ w) ∧ s.sst.since + 10000 ≤ s.clock + dt ∧ res = failed w.val 1
      ∨ c = (fun n => .storeTimeout ⟨dt, n⟩ w) ∧ s.sst.since + 400000 ≤ s.clock + dt ∧ res = failed w.val 3
  (∀ (dt : Nat) (r : OrderRecord) (s : State), s.offers .storeSettings r →
    ∃ t, exec (.storeSettings dt .carryOut) s = .next t ∧ t.exc = s.takenWith r none
      ∧ t.sst = { s.sst with
        store := .storing, copy := some { table := s.sst.table, keymap := s.sst.keymap }, since := s.clock + dt }
      ∧ Unchanged [.clock, .exc, .sst, .window] s t ∧ BytesKept [(13, 14)] s t)
  ∧ (∀ (dt : Nat) (c : IntakeReach → Instr) (next : IntakeReach) (h : OrderInHand) (res : OrderResult) (s : State),
    s.answers h → storing h s → ends dt c res s →
    ∃ t, exec (c next) s = .next t ∧ ended h res s t)
  ∧ ∀ (dt : Nat) (c : IntakeReach → Instr) (next : IntakeReach) (h : OrderInHand) (res : OrderResult) (s : State),
    s.resetting = none → s.exc.state = .detached ∨ s.exc.readIndex = s.orderWrite → s.exc.inHand = some h → h.discard = true →
    storing h s → ends dt c res s →
    exec (c next) s = .next (discarded dt s)

/-- RESTORE_DEFAULTS (R195, R146): every setting and every key map entry at its default, every key's dynamic part reset, the
chord IDLE; a service window of more than the default 60 s closes. That no report comes of it, the keys being reset before the
restored settings act, is the model's choice (log 37). The mirror follows (R92, R118, R149, R167), one rewrite an effect (the
model's choice: log 8). -/
def Obligations.DefaultsAreRestored : Prop :=
  ∀ (dt : Nat) (r : OrderRecord) (s : State), s.offers .restoreDefaults r →
    ∃ t, exec (.restoreDefaults dt .carryOut) s = .next t
      ∧ t.exc = s.takenWith r (some
        { outcome := .done
          value := BitVec.ofNat 32 ((List.range 102).countP fun n => decide (s.setting n ≠ settingAt defaultTable n))
          detail := BitVec.ofNat 32 ((List.finRange 48).countP fun p => decide ((s.key p).mask ≠ .none)) })
      ∧ t.sst = { s.sst with table := defaultTable, keymap := defaultKeyMap }
      ∧ (∀ p : Position, t.key p = (s.key p).afterReplacement)
      ∧ t.kps = { s.kps with
        keys := t.kps.keys, chord := .idle, chordTimer := none
        window := match s.kps.window with
          | none => none
          | some t0 => if t0 + 60000000 ≤ s.clock + dt then none else some t0 }
      ∧ MirrorFollows s t
      ∧ Unchanged [.clock, .exc, .sst, .kps, .window] s t ∧ BytesKept [(13, 14), supervisionSpan, panelSpan] s t

/-- SNAPSHOT (R177, R178): the section's words copied to the destination, or BAD_OPERAND by the checks of R177. -/
def Obligations.SnapshotCopiesASection : Prop :=
  let place (w : Word) : Nat × Nat :=
    if w = 0#32 then (64, 64) else if w = 1#32 then (128, 32) else if w = 2#32 then (160, 32) else (192, 64)
  let target (r : OrderRecord) : Int := r.w2.toInt + r.w3.toNat * 2 ^ r.w4.toNat
  let apart (d len base size : Nat) : Prop := d + len ≤ base ∨ base + size ≤ d
  let allowed (r : OrderRecord) (l : Layout) : Prop :=
    r.w1.toNat ≤ 3 ∧ r.w3.toNat ≤ 1023 ∧ r.w4.toNat ≤ 7 ∧ target r % 8 = 0 ∧ 256 ≤ target r
    ∧ target r + (place r.w1).2 ≤ 2048
    ∧ apart (target r).toNat (place r.w1).2 l.orderBase ((l.orderMask + 1) * 8)
    ∧ apart (target r).toNat (place r.w1).2 l.reportBase ((l.reportMask + 1) * 4)
  (∀ (dt : Nat) (r : OrderRecord) (s : State), s.offers .snapshot r → allowed r s.exc.layout →
    ∃ t, exec (.snapshot dt .carryOut) s = .next t
      ∧ (∀ i : Nat, i < (place r.w1).2 → t.mem.word ((target r).toNat + i) = s.mem.word ((place r.w1).1 + i))
      ∧ t.exc = s.takenWith r (some
        { outcome := .done
          value := if r.w1 = 3#32 then s.hbw.historyUpdates else s.mem.word (place r.w1).1
          detail := BitVec.ofNat 32 (target r).toNat })
      ∧ Unchanged [.clock, .exc, .window] s t
      ∧ BytesKept [(13, 14), ((target r).toNat, (target r).toNat + (place r.w1).2)] s t)
  ∧ ∀ (dt : Nat) (r : OrderRecord) (s : State), s.offers .snapshot r → ¬ allowed r s.exc.layout →
    ∃ t, exec (.snapshot dt .carryOut) s = .next t ∧ RefusedWith r .badOperand s t

/-- ARM_WATCH and DISARM_WATCH (R103, R104): their refusals in order, and the watch that they leave. The mirror follows (R92,
R118, R149, R167), one rewrite an effect (the model's choice: log 8). -/
def Obligations.WatchOrdersArmAndDisarm : Prop :=
  let moved (s : State) : Sequencer :=
    if s.psq.state = .booting ∨ s.psq.state = .warned then s.movedTo .running else s.psq
  let armed (src : ArmSource) (ow og w now : Nat) (s : State) : HeartbeatWatch :=
    { s.hbw with
      phase := .watch, source := src, orderWindow := ow, orderGrace := og, boot := none, grace := none
      watch := some { start := now, length := w * 1000000 } }
  let into (lo hi v : Int) : Int := if v < lo then lo else if hi < v then hi else v
  let frame (s t : State) : Prop :=
    Unchanged [.clock, .psq, .hbw, .exc, .window] s t ∧ BytesKept [(13, 14), supervisionSpan] s t ∧ MirrorFollows s t
  (∀ (dt : Nat) (r : OrderRecord) (s : State), s.offers .armWatch r →
    1 < r.w3.toNat ∨ r.w3 = 1#32 ∧ (r.w1 ≠ 0#32 ∨ r.w2 ≠ 0#32) →
    ∃ t, exec (.armWatch dt .carryOut) s = .next t ∧ RefusedWith r .badOperand s t)
  ∧ (∀ (dt : Nat) (r : OrderRecord) (s : State), s.offers .armWatch r →
    r.w3 = 0#32 ∨ r.w3 = 1#32 ∧ r.w1 = 0#32 ∧ r.w2 = 0#32 → s.psq.state.up = false →
    ∃ t, exec (.armWatch dt .carryOut) s = .next t ∧ RefusedWith r .wrongState s t)
  ∧ (∀ (dt : Nat) (r : OrderRecord) (s : State), s.offers .armWatch r → r.w3 = 1#32 → r.w1 = 0#32 → r.w2 = 0#32 →
    s.psq.state.up = true →
    ∃ t, exec (.armWatch dt .carryOut) s = .next t
      ∧ t.hbw = armed .settings s.hbw.orderWindow s.hbw.orderGrace (s.setting 66).toNat (s.clock + dt) s
      ∧ t.psq = moved s
      ∧ t.exc = s.takenWith r (some
        { outcome := .done, value := BitVec.ofNat 32 (s.setting 66).toNat
          detail := BitVec.ofNat 32 (s.setting 67).toNat })
      ∧ frame s t)
  ∧ (∀ (dt : Nat) (r : OrderRecord) (s : State), s.offers .armWatch r → r.w3 = 0#32 → s.psq.state.up = true →
    ∃ t, exec (.armWatch dt .carryOut) s = .next t
      ∧ (let w := into 1 600 r.w1.toInt
        let g := into 0 60 r.w2.toInt
        t.hbw = armed .order w.toNat g.toNat w.toNat (s.clock + dt) s
        ∧ t.psq = moved s
        ∧ t.exc = s.takenWith r (some
          { outcome := if w = r.w1.toInt ∧ g = r.w2.toInt then .done else .clamped
            value := BitVec.ofInt 32 w, detail := BitVec.ofInt 32 g }))
      ∧ frame s t)
  ∧ (∀ (dt : Nat) (r : OrderRecord) (s : State), s.offers .disarmWatch r → s.psq.state ≠ .running → s.psq.state ≠ .warned →
    ∃ t, exec (.disarmWatch dt .carryOut) s = .next t ∧ RefusedWith r .wrongState s t)
  ∧ (∀ (dt : Nat) (r : OrderRecord) (s : State), s.offers .disarmWatch r → s.psq.state = .running ∨ s.psq.state = .warned →
    s.kps.window = none →
    ∃ t, exec (.disarmWatch dt .carryOut) s = .next t ∧ RefusedWith r .locked s t)
  ∧ ∀ (dt : Nat) (r : OrderRecord) (s : State), s.offers .disarmWatch r → s.psq.state = .running ∨ s.psq.state = .warned →
    s.kps.window ≠ none →
    ∃ t, exec (.disarmWatch dt .carryOut) s = .next t
      ∧ t.hbw = { s.hbw with phase := .disarmed, boot := none, watch := none, grace := none } ∧ t.psq = moved s
      ∧ t.exc = s.takenWith r (some
        { outcome := .done, value := BitVec.ofNat 32 s.hbw.phase.code, detail := 0#32 })
      ∧ frame s t

/-- REQUEST_RESTART (R113, R107, R108, R77): recorded at its take with order code 9, the decision held; at its completion the
entry is answered and then the decision carried out, with the main-off event where the rail goes off (R23, R79; Tr as log 16
says). An order to be discarded (R170, R169) is answered nowhere, and its completion carries the decision out all the same
(R174). The mirror follows (R92, R118, R149, R167), one rewrite an effect (the model's choice: log 8). -/
def Obligations.RestartIsHeldUntilAnswered : Prop :=
  let frame (s t : State) : Prop :=
    Unchanged [.clock, .psq, .hbw, .exc, .window] s t ∧ BytesKept [(13, 14), supervisionSpan, historySpan] s t
    ∧ MirrorFollows s t
  let carried (a : Action) (s t : State) : Prop :=
    DecisionCarriedOut a s t ∧ TakenDown s t ∧ KeypadFollows a s t ∧ t.psq.held = none ∧ t.hbw = s.watchStopped
    ∧ MirrorFollows s t ∧ Unchanged [.clock, .psq, .hbw, .exc, .rpu, .zc, .kps, .window] s t
  (∀ (dt : Nat) (r : OrderRecord) (s : State), s.offers .requestRestart r → r.w1 ≠ 1#32 → r.w1 ≠ 2#32 →
    ∃ t, exec (.requestRestart dt .carryOut) s = .next t ∧ RefusedWith r .badOperand s t)
  ∧ (∀ (dt : Nat) (r : OrderRecord) (s : State), s.offers .requestRestart r → r.w1 = 1#32 ∨ r.w1 = 2#32 →
    s.psq.state.up = false →
    ∃ t, exec (.requestRestart dt .carryOut) s = .next t ∧ RefusedWith r .wrongState s t)
  ∧ (∀ (dt : Nat) (r : OrderRecord) (s : State) (c : Cause) (a : Action), s.offers .requestRestart r →
    r.w1 = 1#32 ∧ c = .hostWarm ∧ a = .warm ∨ r.w1 = 2#32 ∧ c = .hostCold ∧ a = .cold → s.psq.state.up = true →
    ∃ t, exec (.requestRestart dt .carryOut) s = .next t
      ∧ t.psq = { s.psq with held := some a }
      ∧ FailureTaken { s.failureRecord c .requested a with lastOrder := 9 } s t
      ∧ t.exc = s.takenWith r (some
        { outcome := .done, value := BitVec.ofNat 32 s.hbw.nextSeq, detail := BitVec.ofNat 32 a.code })
      ∧ frame s t)
  ∧ (∀ (dt : Nat) (next : IntakeReach) (h : OrderInHand) (res : OrderResult) (a : Action) (s : State), s.answers h →
    h.result = some res → OrderKind.ofCode h.record.code = some .requestRestart → s.psq.held = some a → s.psq.state.up = true →
    (∀ n : Nat, s.psq.delay ≠ .waiting n) →
    ∃ t, exec (.requestRestart dt (.complete next)) s = .next t ∧ t.clock = s.clock + dt
      ∧ AnsweredAt h res t ∧ t.exc = { s.detachedForRestart with readIndex := s.exc.readIndex + 1, inHand := none }
      ∧ carried a s t ∧ BytesKept [anchorSpan, supervisionSpan, panelSpan, (h.entry, h.entry + 8)] s t)
  ∧ ∀ (dt : Nat) (next : IntakeReach) (h : OrderInHand) (res : OrderResult) (a : Action) (s : State), s.resetting = none →
    s.exc.inHand = some h → h.discard = true → h.result = some res → OrderKind.ofCode h.record.code = some .requestRestart →
    s.psq.held = some a → s.psq.state.up = true → (∀ n : Nat, s.psq.delay ≠ .waiting n) →
    ∃ t, exec (.requestRestart dt (.complete next)) s = .next t ∧ t.clock = s.clock + dt
      ∧ t.exc = { s.detachedForRestart with inHand := none }
      ∧ carried a s t ∧ BytesKept [anchorSpan, supervisionSpan, panelSpan, s.takenDown.queueSpan] s t

/-- REQUEST_STANDBY (R82, R174): SHUTDOWN at its take with the delay waiting; at its completion the entry is answered and the
delay runs, or, with a delay of 0 s, the computer is taken down within the completion (the model's reading: log 29), with the
main-off event (R23, R79; Tr as log 16 says) and the masks that STANDBY's shorter quiet time releases (R139; log 19). An order
to be discarded (R170, R169) is answered nowhere, and its completion starts or ends the delay all the same (R174). The mirror
follows (R92, R118, R149, R167), one rewrite an effect (the model's choice: log 8). -/
def Obligations.StandbyDelayRunsFromTheAnswer : Prop :=
  let into (lo hi v : Int) : Int := if v < lo then lo else if hi < v then hi else v
  let discarded (h : OrderInHand) (s : State) : Prop :=
    s.resetting = none ∧ s.exc.inHand = some h ∧ h.discard = true ∧ h.result.isSome = true
    ∧ OrderKind.ofCode h.record.code = some .requestStandby ∧ s.psq.held = none
  let ended (s t : State) : Prop :=
    TakenDown s t ∧ t.psq = { s.movedTo .standby with reason := .none, mainEn := false, hostReset := true }
    ∧ t.hbw = s.watchStopped ∧ MainOffTaken s t ∧ QuietReleased s t ∧ MirrorFollows s t
    ∧ Unchanged [.clock, .psq, .hbw, .exc, .rpu, .zc, .kps, .window] s t
  (∀ (dt : Nat) (r : OrderRecord) (s : State), s.offers .requestStandby r → s.psq.state.up = false →
    ∃ t, exec (.requestStandby dt .carryOut) s = .next t ∧ RefusedWith r .wrongState s t)
  ∧ (∀ (dt : Nat) (r : OrderRecord) (s : State), s.offers .requestStandby r → s.psq.state.up = true →
    ∃ t, exec (.requestStandby dt .carryOut) s = .next t
      ∧ t.psq = { s.movedTo .shutdown with target := .standby, delay := .waiting (into 0 600 r.w1.toInt).toNat }
      ∧ t.hbw = s.watchStopped
      ∧ t.exc = s.takenWith r (some
        { outcome := if into 0 600 r.w1.toInt = r.w1.toInt then .done else .clamped
          value := BitVec.ofInt 32 (into 0 600 r.w1.toInt), detail := BitVec.ofNat 32 s.psq.state.code })
      ∧ MirrorFollows s t
      ∧ Unchanged [.clock, .psq, .hbw, .exc, .window] s t ∧ BytesKept [(13, 14), supervisionSpan] s t)
  ∧ (∀ (dt : Nat) (next : IntakeReach) (h : OrderInHand) (res : OrderResult) (n : Nat) (s : State), s.answers h →
    h.result = some res → OrderKind.ofCode h.record.code = some .requestStandby → s.psq.held = none → s.psq.delay = .waiting n → 0 < n →
    ∃ t, exec (.requestStandby dt (.complete next)) s = .next t ∧ AnsweredOnly h res s t
      ∧ t.psq = { s.psq with delay := .running { start := s.clock + dt, length := n * 1000000 } }
      ∧ Unchanged [.clock, .psq, .exc, .rpu, .window] s t)
  ∧ (∀ (dt : Nat) (next : IntakeReach) (h : OrderInHand) (res : OrderResult) (s : State), s.answers h → h.result = some res →
    OrderKind.ofCode h.record.code = some .requestStandby → s.psq.held = none → s.psq.delay = .waiting 0 →
    s.psq.target = .standby →
    ∃ t, exec (.requestStandby dt (.complete next)) s = .next t ∧ t.clock = s.clock + dt ∧ AnsweredAt h res t
      ∧ t.exc = { s.detachedForRestart with readIndex := s.exc.readIndex + 1, inHand := none } ∧ ended s t
      ∧ BytesKept [anchorSpan, supervisionSpan, panelSpan, (h.entry, h.entry + 8)] s t)
  ∧ (∀ (dt : Nat) (next : IntakeReach) (h : OrderInHand) (n : Nat) (s : State), discarded h s →
    s.exc.state = .detached ∨ s.exc.readIndex = s.orderWrite → s.psq.delay = .waiting n → 0 < n →
    exec (.requestStandby dt (.complete next)) s = .next
      { s with
        clock := s.clock + dt, exc := { s.exc with inHand := none }
        psq := { s.psq with delay := .running { start := s.clock + dt, length := n * 1000000 } } })
  ∧ ∀ (dt : Nat) (next : IntakeReach) (h : OrderInHand) (s : State), discarded h s → s.psq.delay = .waiting 0 →
    s.psq.target = .standby →
    ∃ t, exec (.requestStandby dt (.complete next)) s = .next t ∧ t.clock = s.clock + dt
      ∧ t.exc = { s.detachedForRestart with inHand := none } ∧ ended s t
      ∧ BytesKept [anchorSpan, supervisionSpan, panelSpan, s.takenDown.queueSpan] s t

/-- LOAD_KEYMAP (R145, R146): BAD_OPERAND by its ranges and by its source words; else the named entries replaced, their keys
reset, every other key and entry as it was. The chord is examined on the new entries (R140, R142): a hold ends, and may begin
anew, where some named position is a member before or after (the model's reading: log 20); a fired chord is let go where no
member is DOWN. The mirror follows (R92, R118, R149, R167), one rewrite an effect (the model's choice: log 8). -/
def Obligations.KeymapIsLoaded : Prop :=
  let inRange (r : OrderRecord) : Prop :=
    256 ≤ r.w1.toNat ∧ r.w1.toNat ≤ 2047 ∧ r.w2.toNat ≤ 47 ∧ 1 ≤ r.w3.toNat ∧ r.w3.toNat ≤ 48
    ∧ r.w2.toNat + r.w3.toNat ≤ 48 ∧ r.w1.toNat + r.w3.toNat ≤ 2048
  let named (r : OrderRecord) (p : Position) : Prop := r.w2.toNat ≤ p.val ∧ p.val < r.w2.toNat + r.w3.toNat
  (∀ (dt : Nat) (r : OrderRecord) (s : State), s.offers .loadKeymap r → ¬ inRange r →
    ∃ t, exec (.loadKeymap dt .carryOut) s = .next t ∧ RefusedWith r .badOperand s t)
  ∧ (∀ (dt : Nat) (r : OrderRecord) (i : Nat) (s : State), s.offers .loadKeymap r → inRange r → i < r.w3.toNat →
    KeyEntry.ofWord (s.mem.word (r.w1.toNat + i)) = none →
    ∃ t, exec (.loadKeymap dt .carryOut) s = .next t ∧ RefusedWith r .badOperand s t)
  ∧ ∀ (dt : Nat) (r : OrderRecord) (es : Position → KeyEntry) (s : State), s.offers .loadKeymap r → inRange r →
    (∀ p : Position, named r p → KeyEntry.ofWord (s.mem.word (r.w1.toNat + (p.val - r.w2.toNat))) = some (es p)) →
    ∃ t, exec (.loadKeymap dt .carryOut) s = .next t
      ∧ (∀ p : Position, named r p → t.entry p = es p ∧ t.key p = (s.key p).afterReplacement)
      ∧ (∀ p : Position, ¬ named r p → t.entry p = s.entry p ∧ t.key p = s.key p)
      ∧ t.sst = { s.sst with keymap := t.sst.keymap }
      ∧ t.kps = { s.kps with keys := t.kps.keys, chord := t.kps.chord, chordTimer := t.kps.chordTimer }
      ∧ (s.kps.chord = .fired → (t.kps.chord, t.kps.chordTimer) =
        if ∃ p : Position, t.isMember p ∧ (t.key p).deb = true then (ChordState.fired, s.kps.chordTimer) else (.idle, none))
      ∧ (s.kps.chord ≠ .fired → (∃ p : Position, named r p ∧ (s.isMember p ∨ t.isMember p)) →
        (t.kps.chord, t.kps.chordTimer) = if t.chordHeld then (ChordState.holding, some (s.clock + dt)) else (.idle, none))
      ∧ (s.kps.chord ≠ .fired → (∀ p : Position, named r p → ¬ s.isMember p ∧ ¬ t.isMember p) →
        t.kps.chord = s.kps.chord ∧ t.kps.chordTimer = s.kps.chordTimer)
      ∧ (∃ v : Word, t.exc = s.takenWith r (some { outcome := .done, value := BitVec.ofNat 32 r.w3.toNat, detail := v })
        ∧ v.toNat = (List.finRange 48).countP fun p =>
          decide (r.w2.toNat ≤ p.val ∧ p.val < r.w2.toNat + r.w3.toNat ∧ (s.key p).mask ≠ .none))
      ∧ MirrorFollows s t
      ∧ Unchanged [.clock, .exc, .sst, .kps, .window] s t ∧ BytesKept [(13, 14), panelSpan] s t

/-- UNMASK_KEY (R147, R139): an operand that names no position is refused; a named key that is used loses its mask, every other
key is as it was, and the chord is examined anew where a member was released (R140). Each key released, in ascending position,
gives KEY_UNMASKED with detail 2; debounced DOWN it is a fresh press, with KEY_DOWN, detail 1, unless it is routed LOCAL, and
its local action (R134). The mirror follows (R92, R118, R149, R167), one rewrite an effect (the model's choice: log 8). -/
def Obligations.KeysAreUnmasked : Prop :=
  let named (r : OrderRecord) (p : Position) : Prop := r.w1.toNat = 255 ∨ r.w1.toNat = p.val
  let released (r : OrderRecord) (s : State) (p : Position) : Bool :=
    decide ((r.w1.toNat = 255 ∨ r.w1.toNat = p.val) ∧ (s.entry p).used = true ∧ (s.key p).mask ≠ .none)
  (∀ (dt : Nat) (r : OrderRecord) (s : State), s.offers .unmaskKey r → 48 ≤ r.w1.toNat → r.w1.toNat ≠ 255 →
    ∃ t, exec (.unmaskKey dt .carryOut) s = .next t ∧ RefusedWith r .badOperand s t)
  ∧ (∀ (dt : Nat) (r : OrderRecord) (s : State), s.offers .unmaskKey r → r.w1.toNat < 48 ∨ r.w1.toNat = 255 →
    ∃ t, exec (.unmaskKey dt .carryOut) s = .next t
      ∧ (∀ p : Position, named r p → (s.entry p).used = true → (s.key p).mask ≠ .none →
        (t.key p).mask = .none ∧ (t.key p).transitions = 0 ∧ (t.key p).deb = (s.key p).deb
        ∧ ((s.key p).deb = true → (t.key p).hold = some (s.clock + dt) ∧ (t.key p).repeatNo = 0 ∧ (t.key p).done = false))
      ∧ (∀ p : Position, ¬ named r p ∨ (s.entry p).used = false ∨ (s.key p).mask = .none → t.key p = s.key p)
      ∧ (∃ v w : Word, t.exc = s.takenWith r (some { outcome := .done, value := v, detail := w })
        ∧ v.toNat = (List.finRange 48).countP (fun p => decide ((r.w1.toNat = 255 ∨ r.w1.toNat = p.val)
          ∧ (s.entry p).used = true ∧ (s.key p).mask ≠ .none))
        ∧ w.toNat = (List.finRange 48).countP (fun p => decide ((r.w1.toNat = 255 ∨ r.w1.toNat = p.val)
          ∧ (s.entry p).used = true ∧ (s.key p).mask ≠ .none ∧ (s.key p).deb = true)))
      ∧ ReportsGiven (s.releaseReports 2 (released r s)) s t
      ∧ t.kps.reports = s.kps.reports + BitVec.ofNat 32 (s.releaseReports 2 (released r s)).length
      ∧ WakeTaken (fun p => released r s p = true ∧ (s.key p).deb = true) s t
      ∧ LampTestTaken (fun p => released r s p = true ∧ (s.key p).deb = true) s t
      ∧ ChordExamined (∃ p : Position, named r p ∧ s.isMember p ∧ (s.key p).mask ≠ .none) s t
      ∧ MirrorFollows s t
      ∧ Unchanged [.clock, .exc, .kps, .ind, .psq, .hbw, .rpu, .window] s t
      ∧ BytesKept [anchorSpan, supervisionSpan, panelSpan, s.queueSpan] s t)
  ∧ ∀ (dt : Nat) (r : OrderRecord) (p : Position) (s : State), s.offers .unmaskKey r → r.w1.toNat = p.val →
    (s.entry p).used = true → (s.key p).mask ≠ .none →
    ∃ t, exec (.unmaskKey dt .carryOut) s = .next t
      ∧ ((s.key p).deb = false ∨ (s.entry p).routing = .localOnly →
        ReportGiven (s.keyBody .keyUnmasked p 2) s t ∧ t.kps.reports = s.kps.reports + 1)
      ∧ ((s.key p).deb = true → (s.entry p).routing ≠ .localOnly →
        ReportsGiven [s.keyBody .keyUnmasked p 2, s.keyBody .keyDown p 1] s t ∧ t.kps.reports = s.kps.reports + 2)
      ∧ ((s.key p).deb = false → t.psq = s.psq ∧ t.hbw = s.hbw ∧ t.ind = s.ind)
      ∧ ((s.key p).deb = true → LocalActionTaken p s t)

/-- The checks that every order passes (R173 checks 1 and 3): an entry with VOID set is SKIPPED, whatever its operands; one with
an operand word set that its order does not use is BAD_OPERAND. Neither has another effect. -/
def Obligations.OrdersAreCheckedFirst : Prop :=
  let next (k : OrderKind) (r : OrderRecord) (s : State) : Prop :=
    s.resetting = none ∧ s.exc.state = .attached ∧ s.exc.inHand = none ∧ s.exc.readIndex ≠ s.orderWrite
    ∧ s.recordAt s.orderSlot = r ∧ OrderKind.ofCode r.code = some k
  (∀ (dt : Nat) (k : OrderKind) (r : OrderRecord) (s : State), next k r s → r.void = true →
    ∃ t, exec (k.command dt .carryOut) s = .next t ∧ RefusedWith r .skipped s t)
  ∧ ∀ (dt : Nat) (k : OrderKind) (r : OrderRecord) (s : State), next k r s → r.void = false → r.unusedClear k = false →
    ∃ t, exec (k.command dt .carryOut) s = .next t ∧ RefusedWith r .badOperand s t

/-- The completion of an order for which no owner waits (R174): written into its entry with the read index moved on and DONE
raised, or, marked to be discarded, without any of these, be the exchange DETACHED or, after a re-attach (R169), ATTACHED. It is
a trigger, which can take the order that follows (R172). An order taken and completed in one command is its take, then its
completion; an order of unknown code is completed by NO_OP's row (log 7). -/
def Obligations.CompletionsAreWrittenOrDiscarded : Prop :=
  let isKind (h : OrderInHand) (k : OrderKind) : Prop := (OrderKind.ofCode h.record.code).getD .noOp = k
  let discarded (h : OrderInHand) (res : OrderResult) (s : State) : Prop :=
    s.resetting = none ∧ s.exc.inHand = some h ∧ h.discard = true ∧ h.result = some res ∧ s.noOwnerWaits
  (∀ (dt : Nat) (next : IntakeReach) (k : OrderKind) (h : OrderInHand) (res : OrderResult) (s : State), s.answers h →
    s.noOwnerWaits → h.result = some res → isKind h k →
    ∃ t, exec (k.command dt (.complete next)) s = .next t ∧ AnsweredOnly h res s t
      ∧ Unchanged [.clock, .exc, .rpu, .window] s t)
  ∧ (∀ (dt : Nat) (next : IntakeReach) (k : OrderKind) (h : OrderInHand) (res : OrderResult) (s : State), discarded h res s →
    isKind h k → s.exc.state = .detached ∨ s.exc.readIndex = s.orderWrite →
    exec (k.command dt (.complete next)) s = .next { s with clock := s.clock + dt, exc := { s.exc with inHand := none } })
  ∧ (∀ (dt : Nat) (k : OrderKind) (h : OrderInHand) (res : OrderResult) (r : OrderRecord) (s : State), discarded h res s →
    isKind h k → s.exc.state = .attached → s.exc.readIndex ≠ s.orderWrite → s.recordAt s.orderSlot = r →
    r.code = 1 → r.void = false → r.operands.all (· == 0#32) = true →
    ∃ t, exec (k.command dt (.complete .toTake)) s = .next t
      ∧ t.exc = s.takenWith r (some
        { outcome := .done, value := s.uptime, detail := BitVec.ofNat 32 s.rpu.holding.length })
      ∧ Unchanged [.clock, .exc, .window] s t ∧ BytesKept [(13, 14)] s t)
  ∧ (∀ (dt : Nat) (k : OrderKind) (h : OrderInHand) (res : OrderResult) (r : OrderRecord) (e : Nat) (s : State),
    s.resetting = none → s.exc.state = .attached → s.exc.inHand = some h → h.discard = false → entryInHostArea h.entry →
    h.result = some res → isKind h k → s.noOwnerWaits → s.exc.readIndex + 1 ≠ s.orderWrite →
    e = s.exc.layout.orderBase + ((s.exc.readIndex + 1).toNat &&& s.exc.layout.orderMask) * 8 → s.recordAt e = r →
    h.entry + 8 ≤ e ∨ e + 8 ≤ h.entry → 32 ≤ e → r.code = 1 → r.void = false → r.operands.all (· == 0#32) = true →
    ∃ t, exec (k.command dt (.complete .toTake)) s = .next t ∧ AnsweredAt h res t
      ∧ t.exc = { s.exc with
        readIndex := s.exc.readIndex + 1, lastOrder := 1
        inHand := some
          { record := r, entry := e, discard := false
            result := some { outcome := .done, value := s.uptime, detail := BitVec.ofNat 32 s.rpu.holding.length } } }
      ∧ t.rpu = { s.rpu with
        pending := s.rpu.pending ||| 1#4, attn := decide ((s.rpu.pending ||| 1#4) &&& s.exc.enable ≠ 0#4) }
      ∧ Unchanged [.clock, .exc, .rpu, .window] s t)
  ∧ (∀ (dt : Nat) (next : IntakeReach) (k : OrderKind) (r : OrderRecord) (s : State), s.offers k r →
    ∃ u t, exec (k.command dt .carryOut) s = .next u ∧ exec (k.command 0 (.complete next)) u = .next t
      ∧ exec (k.command dt (.whole next)) s = .next t)
  ∧ ∀ (dt : Nat) (next : IntakeReach) (k : OrderKind) (s : State), s.resetting = none → s.nothingToTake →
    exec (k.command dt .carryOut) s = .next { s with clock := s.clock + dt }
    ∧ exec (k.command dt (.whole next)) s = .next { s with clock := s.clock + dt }

/-! ## The keypad -/

/-- A SLOW scan (R125, R124): a used position that reads DOWN makes a key wake; else the mode is chosen by R124 (log 18); the keys
themselves are left as they are. The timers of the whole keypad (R122, R124, R138, R143, R149): the activity timer's end, the
chatter window's restart with the panel section rewritten, and the service window's close. The mirror follows (R92, R118, R149,
R167), one rewrite an effect (the model's choice: log 8). -/
def Obligations.SlowScansAndKeypadTimers : Prop :=
  ((∀ (dt : Nat) (raw : BitVec 48) (s : State) (n : Nat), s.resetting = none → s.kps.mode = .slow → s.kps.nextScan = some n →
      n ≤ s.clock + dt → (∃ p : Position, s.readsDown raw p) →
      ∃ t, exec (.slowScan dt raw) s = .next t
        ∧ t.kps = { s.kps with mode := .active, activity := some (s.clock + dt), nextScan := some (s.clock + dt) }
        ∧ MirrorFollows s t
        ∧ Unchanged [.clock, .kps, .window] s t ∧ BytesKept [panelSpan] s t)
    ∧ (∀ (dt : Nat) (raw : BitVec 48) (s : State) (n : Nat), s.resetting = none → s.kps.mode = .slow → s.kps.nextScan = some n →
      n ≤ s.clock + dt → (∀ p : Position, ¬ s.readsDown raw p) → s.psq.state.up = false → s.kps.activity = none →
      (∀ p : Position, (s.entry p).used = true → (s.key p).raw = false ∧ (s.key p).deb = false) →
      exec (.slowScan dt raw) s = .next
        { s with clock := s.clock + dt, kps := { s.kps with nextScan := some (s.clock + dt + 50000) } })
    ∧ ∀ (dt : Nat) (raw : BitVec 48) (s : State) (n : Nat), s.resetting = none → s.kps.mode = .slow → s.kps.nextScan = some n →
      n ≤ s.clock + dt → (∀ p : Position, ¬ s.readsDown raw p) → s.psq.state.up = true ∨ s.kps.activity ≠ none →
      ∃ t, exec (.slowScan dt raw) s = .next t
        ∧ t.kps = { s.kps with mode := .active, nextScan := some (s.clock + dt + 5000) } ∧ MirrorFollows s t
        ∧ Unchanged [.clock, .kps, .window] s t ∧ BytesKept [panelSpan] s t)
  ∧ ((∀ (dt : Nat) (s : State) (t0 : Nat), s.resetting = none → s.kps.activity = some t0 → t0 + 2000000 ≤ s.clock + dt →
      exec (.activityTimerExpiry dt) s = .next
        { s with clock := s.clock + dt, kps := { s.kps with activity := none } })
    ∧ (∀ (dt : Nat) (s : State) (t0 : Nat), s.resetting = none → s.kps.chatterWindow = some t0 → t0 + 1000000 ≤ s.clock + dt →
      ∃ t, exec (.chatterWindowRestart dt) s = .next t
        ∧ t.kps = { s.kps with chatterWindow := some (s.clock + dt), keys := t.kps.keys }
        ∧ (∀ p : Position, t.key p = { s.key p with transitions := 0 })
        ∧ t.mem.word 160 = s.mem.word 160 + 1 ∧ t.mem.word 191 = s.mem.word 160 + 1 ∧ t.mem.wordsFrom 161 30 = t.panelBody
        ∧ Unchanged [.clock, .kps, .window] s t ∧ BytesKept [panelSpan] s t)
    ∧ ∀ (dt : Nat) (s : State) (t0 : Nat), s.resetting = none → s.kps.window = some t0 →
      t0 + (s.setting 87).toNat * 1000000 ≤ s.clock + dt →
      ∃ t, exec (.serviceWindowClose dt) s = .next t ∧ t.kps = { s.kps with window := none } ∧ MirrorFollows s t
        ∧ Unchanged [.clock, .kps, .window] s t ∧ BytesKept [panelSpan] s t)

/-- An ACTIVE scan (R126, R127, R128, R129, R124): each used key's raw state, must-see-UP flag, debounce count and debounced
state; a key that does not change state keeps everything else; the activity timer and the mode at the scan's end. The chord at
step 4 (R140, R142): from IDLE, or where a member's mask has changed, HOLDING begins where the condition holds; a hold ends
where a qualifying member is UP; a fired chord is let go where no member is DOWN. The mirror follows (R92, R118, R149, R167),
one rewrite an effect (the model's choice: log 8). -/
def Obligations.ActiveScansDebounce : Prop :=
  ∀ (dt : Nat) (raw : BitVec 48) (s : State) (n : Nat), s.resetting = none → s.kps.mode = .active → s.kps.nextScan = some n →
    n ≤ s.clock + dt →
    ∃ t, exec (.activeScan dt raw) s = .next t
      ∧ (∀ p : Position, (s.entry p).used = false → t.key p = s.key p)
      ∧ (∀ p : Position, (s.entry p).used = true →
        let k := s.key p
        let down := raw.getLsbD p.val
        (t.key p).raw = down ∧ (t.key p).mustUp = (k.mustUp && down)
        ∧ (down = k.deb → (t.key p).deb = k.deb ∧ (t.key p).count = 0)
        ∧ (down ≠ k.deb → s.heldByGhost raw p ∨ k.mustUp = true ∧ down = true →
          (t.key p).deb = k.deb ∧ (t.key p).count = 0)
        ∧ (down ≠ k.deb → ¬ s.heldByGhost raw p → k.mustUp = false ∨ down = false →
          if (s.setting 80).toNat ≤ k.count + 1 then (t.key p).deb = down ∧ (t.key p).count = 0
          else (t.key p).deb = k.deb ∧ (t.key p).count = k.count + 1)
        ∧ ((t.key p).deb = k.deb →
          t.key p = { k with raw := down, mustUp := k.mustUp && down, count := (t.key p).count }))
      ∧ ((∃ p : Position, (s.entry p).used = true ∧ ((t.key p).raw = true ∨ (t.key p).deb = true)) →
        t.kps.activity = some (s.clock + dt) ∧ t.kps.mode = .active ∧ t.kps.nextScan = some (s.clock + dt + 5000))
      ∧ ((∀ p : Position, (s.entry p).used = true → (t.key p).raw = false ∧ (t.key p).deb = false) →
        t.kps.activity = s.kps.activity
        ∧ if s.psq.state.up = true ∨ s.kps.activity ≠ none then
            t.kps.mode = .active ∧ t.kps.nextScan = some (s.clock + dt + 5000)
          else t.kps.mode = .slow ∧ t.kps.nextScan = some (s.clock + dt + 50000))
      ∧ t.kps.window = s.kps.window ∧ t.kps.chatterWindow = s.kps.chatterWindow
      ∧ (t.kps.chord, t.kps.chordTimer) =
        (if s.kps.chord = .fired then
          if ∃ p : Position, t.isMember p ∧ (t.key p).deb = true then (.fired, s.kps.chordTimer) else (.idle, none)
        else if s.kps.chord = .holding ∧ ∀ p : Position, t.isMember p → (t.key p).mask = (s.key p).mask then
          if ∃ p : Position, t.isMember p ∧ (t.key p).mask = .none ∧ (t.key p).deb = false then (.idle, none)
          else (.holding, s.kps.chordTimer)
        else if t.chordHeld then (.holding, some (s.clock + dt)) else (.idle, none))
      ∧ MirrorFollows s t
      ∧ Unchanged [.clock, .kps, .ind, .psq, .hbw, .rpu, .window] s t
      ∧ BytesKept [anchorSpan, supervisionSpan, panelSpan, s.queueSpan] s t

/-- The transition of one key at an ACTIVE scan at which no other key changes (R130, R131, R134, R138): its record, its report,
and its action. The mirror follows (R92, R118, R149, R167), one rewrite an effect (the model's choice: log 8). -/
def Obligations.TransitionsAreReported : Prop :=
  let onlyChange (now : Nat) (raw : BitVec 48) (p : Position) (down : Bool) (s : State) : Prop :=
    s.resetting = none ∧ s.kps.mode = .active ∧ (∃ n, s.kps.nextScan = some n ∧ n ≤ now)
    ∧ (s.entry p).used = true ∧ raw.getLsbD p.val = down ∧ (s.key p).deb = !down ∧ ¬ s.heldByGhost raw p
    ∧ ((s.key p).mustUp = false ∨ down = false) ∧ (s.setting 80).toNat ≤ (s.key p).count + 1
    ∧ ∀ q : Position, q ≠ p → (s.entry q).used = true → raw.getLsbD q.val = (s.key q).deb
  let transitions (p : Position) (s : State) : Nat := min 255 ((s.key p).transitions + 1)
  let overLimit (p : Position) (s : State) : Prop := s.setting 84 < (transitions p s : Int)
  let changed (now : Nat) (p : Position) (down : Bool) (s : State) : Key :=
    { s.key p with
      raw := down, deb := down, count := 0, mustUp := false, transitions := transitions p s, quiet := some now }
  let released (now : Nat) (p : Position) (s : State) : Key := { changed now p false s with hold := none, repeatTimer := none }
  let report (kind : ReportKind) (p : Position) (d : Nat) (s t : State) : Prop :=
    ReportGiven { kind := kind, source := p.val, detail := d, value := (s.entry p).code } s t
    ∧ t.kps.reports = s.kps.reports + 1
  let silent (s t : State) : Prop := t.rpu = s.rpu ∧ t.kps.reports = s.kps.reports
  let passive (s t : State) : Prop := t.psq = s.psq ∧ t.hbw = s.hbw ∧ t.ind = s.ind
  let after (dt : Nat) (raw : BitVec 48) (s : State) (c : State → Prop) : Prop :=
    ∃ t, exec (.activeScan dt raw) s = .next t ∧ c t ∧ (s.queueAside → SectionRewritten .panel s t) ∧ MirrorFollows s t
  (∀ (dt : Nat) (raw : BitVec 48) (p : Position) (s : State), onlyChange (s.clock + dt) raw p true s →
    (s.key p).mask = .none → ¬ overLimit p s →
    after dt raw s fun t =>
      t.key p = { changed (s.clock + dt) p true s with hold := some (s.clock + dt), repeatNo := 0, done := false }
      ∧ ((s.entry p).routing ≠ .localOnly → report .keyDown p 0 s t) ∧ ((s.entry p).routing = .localOnly → silent s t)
      ∧ if (s.entry p).routing ≠ .report ∧ (s.entry p).action = .wake ∧ s.psq.state = .standby then
          t.psq = s.heatingFrom ∧ t.hbw = s.watchStopped ∧ t.ind = s.ind
        else if (s.entry p).routing ≠ .report ∧ (s.entry p).action = .lampTest then
          t.psq = s.psq ∧ t.hbw = s.hbw ∧ t.ind = { s.ind with lampTest := some (s.clock + dt) }
        else passive s t)
  ∧ (∀ (dt : Nat) (raw : BitVec 48) (p : Position) (s : State), onlyChange (s.clock + dt) raw p true s →
    (s.key p).mask = .none → overLimit p s →
    after dt raw s fun t =>
      t.key p = { changed (s.clock + dt) p true s with mask := .chatter, hold := none, repeatTimer := none }
      ∧ report .keyMasked p 2 s t ∧ passive s t)
  ∧ (∀ (dt : Nat) (raw : BitVec 48) (p : Position) (s : State), onlyChange (s.clock + dt) raw p true s →
    (s.key p).mask ≠ .none →
    after dt raw s fun t => t.key p = changed (s.clock + dt) p true s ∧ silent s t ∧ passive s t)
  ∧ (∀ (dt : Nat) (raw : BitVec 48) (p : Position) (s : State), onlyChange (s.clock + dt) raw p false s →
    (s.key p).mask = .stuck →
    after dt raw s fun t =>
      t.key p = { released (s.clock + dt) p s with mask := .none, transitions := 0 }
      ∧ report .keyUnmasked p 0 s t ∧ passive s t)
  ∧ (∀ (dt : Nat) (raw : BitVec 48) (p : Position) (s : State), onlyChange (s.clock + dt) raw p false s →
    (s.key p).mask = .none → overLimit p s →
    after dt raw s fun t =>
      t.key p = { released (s.clock + dt) p s with mask := .chatter } ∧ report .keyMasked p 2 s t ∧ passive s t)
  ∧ (∀ (dt : Nat) (raw : BitVec 48) (p : Position) (s : State), onlyChange (s.clock + dt) raw p false s →
    (s.key p).mask = .none → ¬ overLimit p s →
    after dt raw s fun t =>
      t.key p = released (s.clock + dt) p s ∧ ((s.entry p).routing ≠ .localOnly → report .keyUp p 0 s t)
      ∧ ((s.entry p).routing = .localOnly → silent s t) ∧ passive s t)
  ∧ ∀ (dt : Nat) (raw : BitVec 48) (p : Position) (s : State), onlyChange (s.clock + dt) raw p false s →
    (s.key p).mask = .chatter →
    after dt raw s fun t => t.key p = released (s.clock + dt) p s ∧ silent s t ∧ passive s t

/-- The timers of one key (R133, R137, R139, R136): the first and the further KEY_REPEAT, the STUCK mask, and the quiet release,
each with its report; every other key is as it was. A mask set or released at a chord member has the chord examined anew (R140).
The mirror follows (R92, R118, R149, R167), one rewrite an effect (the model's choice: log 8). -/
def Obligations.KeyTimersAct : Prop :=
  let acted (p : Position) (k : Key) (kind : ReportKind) (d : Nat) (s t : State) : Prop :=
    t.key p = k ∧ (∀ q : Position, q ≠ p → t.key q = s.key q)
    ∧ ReportGiven { kind := kind, source := p.val, detail := d, value := (s.entry p).code } s t
    ∧ t.kps.reports = s.kps.reports + 1
  let repeated (s t : State) : Prop :=
    t.kps = { s.kps with keys := t.kps.keys, reports := t.kps.reports }
    ∧ Unchanged [.clock, .kps, .rpu, .window] s t ∧ BytesKept [anchorSpan, s.queueSpan] s t
  let masked (p : Position) (s t : State) : Prop :=
    ChordExamined (s.isMember p) s t
    ∧ t.kps = { s.kps with
      keys := t.kps.keys, reports := t.kps.reports, chord := t.kps.chord, chordTimer := t.kps.chordTimer }
    ∧ (s.queueAside → SectionRewritten .panel s t) ∧ MirrorFollows s t
    ∧ Unchanged [.clock, .kps, .rpu, .window] s t ∧ BytesKept [anchorSpan, panelSpan, s.queueSpan] s t
  let repeats (p : Position) (s : State) : Prop :=
    s.resetting = none ∧ (s.entry p).used = true ∧ (s.entry p).cls = .repeating ∧ (s.entry p).routing ≠ .localOnly
    ∧ (s.key p).mask = .none
  (∀ (dt : Nat) (p : Position) (s : State) (t0 : Nat), repeats p s → (s.key p).repeatNo = 0 → (s.key p).repeatTimer = none →
    (s.key p).hold = some t0 → t0 + (s.setting 81).toNat * 1000 ≤ s.clock + dt →
    ∃ t, exec (.repeatDelay dt p) s = .next t
      ∧ acted p { s.key p with repeatNo := 1, repeatTimer := some (s.clock + dt) } .keyRepeat 1 s t ∧ repeated s t)
  ∧ (∀ (dt : Nat) (p : Position) (s : State) (t0 : Nat), repeats p s → (s.key p).repeatTimer = some t0 →
    t0 + (s.setting 82).toNat * 1000 ≤ s.clock + dt →
    ∃ t, exec (.repeatInterval dt p) s = .next t
      ∧ acted p { s.key p with repeatNo := min 255 ((s.key p).repeatNo + 1), repeatTimer := some (s.clock + dt) } .keyRepeat
        (min 255 ((s.key p).repeatNo + 1)) s t
      ∧ repeated s t)
  ∧ (∀ (dt : Nat) (p : Position) (s : State) (t0 : Nat), s.resetting = none → (s.entry p).used = true →
    (s.key p).mask = .none → (s.key p).hold = some t0 → t0 + (s.setting 83).toNat * 1000000 ≤ s.clock + dt →
    ∃ t, exec (.stuckTime dt p) s = .next t
      ∧ acted p { s.key p with mask := .stuck, hold := none, repeatTimer := none } .keyMasked 1 s t ∧ masked p s t)
  ∧ ∀ (dt : Nat) (p : Position) (s : State) (t0 : Nat), s.resetting = none → (s.entry p).used = true →
    (s.key p).mask = .chatter → (s.key p).deb = false → (s.key p).quiet = some t0 →
    t0 + (s.setting 85).toNat * (if s.psq.state = .standby ∨ s.psq.state = .holdoff then 100000 else 1000000)
      ≤ s.clock + dt →
    ∃ t, exec (.chatterQuietTime dt p) s = .next t
      ∧ acted p { s.key p with mask := .none, transitions := 0 } .keyUnmasked 1 s t ∧ masked p s t

/-- The chord's fire (R141, R139, R134, R88, R70): FIRED, the service window open, every CHATTER mask released, with SERVICE,
then KEY_UNMASKED with detail 3 and, for a key debounced DOWN and not routed LOCAL, KEY_DOWN with detail 1, key by key; an
escalation holdoff released with the service floor; in every other state, STANDBY with them, PSQ moved by a fresh WAKE press
alone. Where the open window readies an OPERATOR_RESTART key, its restart follows the five steps (R135; the place is the
model's: log 36), the lowest position first (log 35), here for failures that reach HBW at once (log 43). The mirror follows
(R92, R118, R149, R167), one rewrite an effect (the model's choice: log 8). -/
def Obligations.ChordOpensTheWindow : Prop :=
  let due (dt : Nat) (s : State) : Prop :=
    s.resetting = none ∧ s.kps.chord = .holding
    ∧ ∃ t0, s.kps.chordTimer = some t0 ∧ t0 + (s.setting 86).toNat * 1000000 ≤ s.clock + dt
  let noRestart (dt : Nat) (s : State) : Prop :=
    ∀ p : Position, s.operatorIdle (s.clock + dt) (s.setting 86).toNat p
  (∀ (dt : Nat) (s : State), due dt s → noRestart dt s →
    ∃ t, exec (.chordFire dt) s = .next t ∧ t.clock = s.clock + dt ∧ ChordFired s t
      ∧ (s.queueAside → SectionRewritten .panel s t) ∧ MirrorFollows s t
      ∧ Unchanged [.clock, .kps, .ind, .psq, .hbw, .rpu, .window] s t
      ∧ BytesKept [anchorSpan, supervisionSpan, panelSpan, historySpan, s.queueSpan] s t)
  ∧ (∀ (dt : Nat) (p : Position) (s : State), due dt s →
    s.operatorFirst (s.clock + dt) (s.setting 86).toNat p → s.kps.operatorLate = false → s.psq.held = none →
    ∃ t, exec (.chordFire dt) s = .next t ∧ t.clock = s.clock + dt
      ∧ WindowOpened s t ∧ t.key p = { s.key p with done := true }
      ∧ (∀ q : Position, q ≠ p → (s.key q).mask ≠ .chatter → t.key q = s.key q)
      ∧ t.rpu.holding = (s.createReports s.fireReports).rpu.holding
      ∧ t.rpu.created = (s.createReports s.fireReports).rpu.created
      ∧ (∀ w : Nat, 256 ≤ w → t.mem.word w = (s.createReports s.fireReports).mem.word w)
      ∧ OperatorRestarted s.exc.lastOrder s t ∧ t.exc = s.detachedForRestart ∧ MirrorFollows s t
      ∧ Unchanged [.clock, .kps, .ind, .psq, .hbw, .exc, .rpu, .window] s t
      ∧ BytesKept [anchorSpan, supervisionSpan, panelSpan, historySpan, s.queueSpan] s t)
  ∧ ∀ (dt : Nat) (s : State), due dt s → noRestart dt s → (∀ p : Position, (s.key p).mask ≠ .chatter) →
    ∃ t, exec (.chordFire dt) s = .next t
      ∧ ReportGiven
        { kind := .service, source := 0, detail := if s.kps.window.isSome = true then 1 else 0, value := s.setting 87 } s t
      ∧ t.kps.reports = s.kps.reports + 1 ∧ t.ind = s.ind

/-- OPERATOR_RESTART (R135, R115, R107, R105): with the four conditions met, the OPERATOR failure is sent, once a press, and,
where it reaches HBW at once, recorded and answered WARM, an order's decision that waits being carried out before it (R77; one
to COLD with the main-off event, R23, Tr as log 16 says); with a condition missing nothing happens. A failure that stays on its
way (the model's form: log 43) leaves PSQ and HBW alone until it arrives. HBW then takes it by PSQ's state of then: as at once
while the computer is up; recorded, with the reset pulse begun again, in RESTARTING; discarded without a record in STANDBY,
HEATING, CYCLING, SHUTDOWN and HOLDOFF. The mirror follows (R92, R118, R149, R167), one rewrite an effect (the model's choice:
log 8). -/
def Obligations.OperatorRestartsTheComputer : Prop :=
  let due (dt : Nat) (p : Position) (s : State) : Prop :=
    s.resetting = none ∧ (s.entry p).used = true ∧ (s.entry p).action = .operatorRestart ∧ (s.entry p).routing ≠ .report
    ∧ (s.key p).mask = .none ∧ (∃ t0, (s.key p).hold = some t0 ∧ t0 + (s.setting 86).toNat * 1000000 ≤ s.clock + dt)
    ∧ s.kps.window ≠ none ∧ s.psq.state.up = true ∧ (s.key p).done = false
  let frame (s t : State) : Prop :=
    t.rpu = s.takenDown.rpu ∧ Unchanged [.clock, .psq, .hbw, .exc, .rpu, .zc, .kps, .window] s t
    ∧ BytesKept [anchorSpan, supervisionSpan, historySpan] s t ∧ MirrorFollows s t
  let taken (a : Action) (s t : State) : Prop :=
    FailureTaken (s.failureRecord .operator .requested .warm) s t ∧ DecisionCarriedOut a s t ∧ TakenDown s t
    ∧ t.exc = s.detachedForRestart ∧ t.psq.held = none
  let onItsWay (n : Nat) (s : State) : Prop := s.resetting = none ∧ s.kps.operatorSent = n + 1
  let arrived (n : Nat) (s : State) : Keypad := { s.kps with operatorSent := n, operatorLate := decide (n ≠ 0) }
  (∀ (dt : Nat) (p : Position) (s : State), due dt p s → s.kps.operatorLate = false → s.psq.held = none →
    ∃ t, exec (.operatorRestart ⟨dt, .fire⟩ p) s = .next t
      ∧ t.key p = { s.key p with done := true } ∧ (∀ q : Position, q ≠ p → t.key q = s.key q)
      ∧ t.kps = { s.kps with keys := t.kps.keys }
      ∧ taken .warm s t ∧ t.psq.pulse = some (s.clock + dt) ∧ frame s t)
  ∧ (∀ (dt : Nat) (p : Position) (s : State) (a : Action), due dt p s → s.kps.operatorLate = false →
    s.psq.held = some a → a = .warm ∨ a = .cold →
    ∃ t, exec (.operatorRestart ⟨dt, .fire⟩ p) s = .next t ∧ t.clock = s.clock + dt
      ∧ t.kps = { s.kps with keys := s.kps.keys.set p { s.key p with done := true } } ∧ taken a s t ∧ frame s t)
  ∧ (∀ (dt : Nat) (p : Position) (s : State), due dt p s → s.kps.operatorLate = true →
    exec (.operatorRestart ⟨dt, .fire⟩ p) s = .next { s with
      clock := s.clock + dt
      kps := { s.kps with
        keys := s.kps.keys.set p { s.key p with done := true }, operatorSent := s.kps.operatorSent + 1 } })
  ∧ (∀ (dt : Nat) (p : Position) (s : State), s.resetting = none →
    (s.entry p).action ≠ .operatorRestart ∨ (s.entry p).routing = .report ∨ (s.key p).mask ≠ .none ∨ (s.key p).hold = none
      ∨ (∃ t0, (s.key p).hold = some t0 ∧ s.clock + dt < t0 + (s.setting 86).toNat * 1000000)
      ∨ s.kps.window = none ∨ s.psq.state.up = false ∨ (s.key p).done = true →
    exec (.operatorRestart ⟨dt, .fire⟩ p) s = .next { s with clock := s.clock + dt })
  ∧ (∀ (dt : Nat) (p : Position) (s : State), s.resetting = none →
    exec (.operatorRestart ⟨dt, .delay⟩ p) s = .next { s with
      clock := s.clock + dt, kps := { s.kps with operatorLate := s.kps.operatorLate || s.kps.nextScan.isSome } })
  ∧ (∀ (dt : Nat) (p : Position) (s : State), s.resetting = none → s.kps.operatorSent = 0 →
    exec (.operatorRestart ⟨dt, .arrive⟩ p) s = .next { s with
      clock := s.clock + dt, kps := { s.kps with operatorLate := false } })
  ∧ (∀ (dt n : Nat) (p : Position) (s : State), onItsWay n s →
    s.psq.state = .standby ∨ s.psq.state = .heating ∨ s.psq.state = .cycling ∨ s.psq.state = .shutdown ∨ s.psq.state = .holdoff →
    exec (.operatorRestart ⟨dt, .arrive⟩ p) s = .next { s with clock := s.clock + dt, kps := arrived n s })
  ∧ (∀ (dt n : Nat) (p : Position) (s : State), onItsWay n s → s.psq.state.up = true → s.psq.held = none →
    ∃ t, exec (.operatorRestart ⟨dt, .arrive⟩ p) s = .next t
      ∧ t.kps = arrived n s ∧ taken .warm s t ∧ t.psq.pulse = some (s.clock + dt) ∧ frame s t)
  ∧ (∀ (dt n : Nat) (p : Position) (s : State) (a : Action), onItsWay n s → s.psq.state.up = true → s.psq.held = some a →
    a = .warm ∨ a = .cold →
    ∃ t, exec (.operatorRestart ⟨dt, .arrive⟩ p) s = .next t ∧ t.clock = s.clock + dt ∧ t.kps = arrived n s ∧ taken a s t
      ∧ frame s t)
  ∧ ∀ (dt n : Nat) (p : Position) (s : State), onItsWay n s → s.psq.state = .restarting → s.psq.held = none →
    ∃ t, exec (.operatorRestart ⟨dt, .arrive⟩ p) s = .next t
      ∧ FailureTaken (s.failureRecord .operator .requested .warm) s t
      ∧ t.psq = { s.psq with pulse := some (s.clock + dt) } ∧ t.kps = arrived n s
      ∧ MirrorFollows s t
      ∧ Unchanged [.clock, .psq, .hbw, .kps, .window] s t ∧ BytesKept [supervisionSpan, historySpan] s t

/-! ## The lamps -/

/-- A frame start (R153, R154, R155, R156, R157, R158): the role settings and the host plane sampled, and every lamp's mode and
source composed; the groups take their slots anew. That no group is driven from the frame start to its first slot is the model's
reading (log 17). At step 5 the panel section is rewritten where IND's fields differ from those it shows, and kept where they do
not (R160, R167). -/
def Obligations.FramesComposeTheLamps : Prop :=
  let roles : List Role := [.power, .alarm, .fan, .filter, .service, .heat]
  let lampOf (r : Role) (s : State) : Nat :=
    match r with
    | .power => (s.setting 96).toNat
    | .heat => (s.setting 97).toNat
    | .alarm => (s.setting 98).toNat
    | .filter => (s.setting 99).toNat
    | .service => (s.setting 100).toNat
    | .fan => (s.setting 101).toNat
  let claims (r : Role) (l : Nat) (s : State) : Prop :=
    ∃ before after : List Role, roles = before ++ r :: after ∧ lampOf r s = l ∧ ∀ q ∈ before, lampOf q s ≠ l
  let inForce (r : Role) (l : RoleLamps) : Nat :=
    match r with
    | .power => l.power
    | .heat => l.heat
    | .alarm => l.alarm
    | .filter => l.filter
    | .service => l.service
    | .fan => l.fan
  let pattern (r : Role) (s : State) : LampMode :=
    match r with
    | .power => match s.psq.state with
      | .standby | .holdoff => .off
      | .heating | .powering => .slow
      | .booting | .running | .warned => .on
      | .restarting | .cycling | .shutdown => .fast
    | .alarm =>
      if s.psq.state = .holdoff then .fast else if s.psq.state = .warned then .slow else if s.la.short0 = true then .on else .off
    | .heat => if ∃ n : Fin 4, 0 < s.zc.zones[n].granted then .on else .off
    | .filter => if s.fc.filterFlag = true then .on else .off
    | .service => if s.kps.window.isSome = true then .on else if s.kps.chord = .holding then .slow else .off
    | .fan => if s.fc.fans[0].failed = true ∨ s.fc.fans[1].failed = true then .fast else .off
  ∀ (dt : Nat) (s : State) (t0 : Nat), s.resetting = none → s.ind.frame = some t0 → t0 + 20000 ≤ s.clock + dt →
    ∃ t, exec (.frameStart dt) s = .next t
      ∧ (s.ind.lampTest ≠ none → ∀ l : Fin 16, t.ind.shown[l] = .on ∧ t.ind.sources[l] = .test)
      ∧ (s.ind.lampTest = none → ∀ l : Fin 16,
        (∀ r : Role, claims r l.val s → t.ind.shown[l] = pattern r s ∧ t.ind.sources[l] = .role)
        ∧ ((∀ r : Role, lampOf r s ≠ l.val) → s.exc.state = .attached →
          t.ind.shown[l].code = (s.mem.word 41).toNat / 4 ^ l.val % 4 ∧ t.ind.sources[l] = .host)
        ∧ ((∀ r : Role, lampOf r s ≠ l.val) → s.exc.state = .detached →
          t.ind.shown[l] = .off ∧ t.ind.sources[l] = .dark))
      ∧ (∀ r : Role, (∀ l : Fin 16, claims r l.val s → inForce r t.ind.roles = l.val)
        ∧ ((∀ l : Fin 16, ¬ claims r l.val s) → inForce r t.ind.roles = 255))
      ∧ t.ind.plane = s.mem.word 41 ∧ t.ind.frame = some (s.clock + dt) ∧ t.ind.nextSlot = 0 ∧ t.ind.group = none
      ∧ t.ind.blink = s.ind.blink ∧ t.ind.lampTest = s.ind.lampTest
      ∧ (if s.mem.wordsFrom 172 7 = (t.panelBody.drop 11).take 7 then SectionKept .panel s t else SectionRewritten .panel s t)
      ∧ Unchanged [.clock, .ind, .window] s t ∧ BytesKept [panelSpan] s t

/-- A group's slot (R150, R151): group k at 5 ms times k of the frame, its lamps lit by their shown modes and the blink timer;
and a lamp test's end at 2 s (R159). -/
def Obligations.GroupSlotsLightTheLamps : Prop :=
  (∀ (dt : Nat) (g : Fin 4) (s : State) (t0 b : Nat), s.resetting = none → s.ind.frame = some t0 → s.ind.nextSlot = g.val →
    t0 + g.val * 5000 ≤ s.clock + dt → s.ind.blink = some b →
    ∃ t, exec (.groupSlot dt) s = .next t
      ∧ t.ind = { s.ind with group := some g, nextSlot := g.val + 1, lit := t.ind.lit }
      ∧ (∀ i : Fin 4, t.ind.lit.getLsbD i.val =
        match s.ind.shown[4 * g.val + i.val]'(by omega) with
        | .off => false
        | .on => true
        | .slow => decide ((s.clock + dt - b) / 1000 % 1000 < 500)
        | .fast => decide ((s.clock + dt - b) / 1000 % 1000 % 250 < 125))
      ∧ Unchanged [.clock, .ind] s t)
  ∧ ∀ (dt : Nat) (s : State) (t0 : Nat), s.resetting = none → s.ind.lampTest = some t0 → t0 + 2000000 ≤ s.clock + dt →
    exec (.lampTestExpiry dt) s = .next { s with clock := s.clock + dt, ind := { s.ind with lampTest := none } }

/-! ## Invariants -/

/-- Every step keeps the window in its canonical form (the model's memory; R161, R198). -/
def Obligations.EveryStepKeepsTheWindow : Prop := ∀ s t : State, WindowOk s → step s = .next t → WindowOk t

/-- Every step keeps the supervision half in order (R66, R67, R77, R78, R98, R168). -/
def Obligations.EveryStepKeepsSupervision : Prop := ∀ s t : State, SupervisionOk s → step s = .next t → SupervisionOk t

/-- Every step keeps the exchange in order (R110, R168, R170, R172, R183 to R185, R187, R189), and the anchor part fields at the
values they show: outside a reset each of words 0 to 31 holds its value, whatever command has changed it (R166, R174, R179), and
the end of a reset leaves them so, with word 10 waiting for the load (the model's inference: log 25). -/
def Obligations.EveryStepKeepsTheExchange : Prop :=
  (∀ s t : State, ExchangeOk s → step s = .next t → ExchangeOk t)
  ∧ ∀ s t : State, SupervisionOk s → ExchangeOk s → AnchorOk s → step s = .next t → AnchorOk t

/-- Every step keeps each setting in its range, partner bounds included (R190, R192, R194, R195, R199). -/
def Obligations.EveryStepKeepsTheSettings : Prop := ∀ s t : State, SettingsOk s → step s = .next t → SettingsOk t

/-- Every step keeps the counts and values of the climate half in their ranges, while the settings are in theirs: channels, the
zones' credits, requests, grants and used temperatures, the dwell, the loads and totals of the allocation, the fans' requests,
grants, captures, readings, speeds and counts, and the clog score (R2, R11, R14, R24, R28, R36, R37, R50, R58, R59, R61). -/
def Obligations.EveryStepKeepsTheClimate : Prop :=
  ∀ s t : State, SettingsOk s → ClimateOk s → step s = .next t → ClimateOk t

/-- The state after reset meets every invariant. -/
def Obligations.InvariantsHoldAtReset : Prop :=
  WindowOk State.reset ∧ SupervisionOk State.reset ∧ ExchangeOk State.reset ∧ AnchorOk State.reset ∧ SettingsOk State.reset
  ∧ ClimateOk State.reset
end

