-- ==== Sys2Proof/Laws/Memory.lean ====
section
/-! SUPPORT. The window's memory: reading after writing, the frame of a write, and the canonical form that every write
keeps. -/

namespace Sys2Proof.Laws

open Sys2Proof.Machine

theorem lookup_filter_pos (m : Memory) (p : Nat → Bool) (x : Nat) (h : p x = true) :
    (m.filter fun c => p c.1).lookup x = m.lookup x := by
  induction m with
  | nil => rfl
  | cons c m ih =>
    obtain ⟨a, b⟩ := c
    by_cases ha : x = a
    · subst ha; simp [h]
    · have hb : (x == a) = false := by simp [ha]
      by_cases hp : p a
      · simp [hp, List.lookup_cons, hb, ih]
      · simp [hp, List.lookup_cons, hb, ih]

theorem lookup_filter_neg (m : Memory) (p : Nat → Bool) (x : Nat) (h : p x = false) :
    (m.filter fun c => p c.1).lookup x = none := by
  induction m with
  | nil => rfl
  | cons c m ih =>
    obtain ⟨a, b⟩ := c
    by_cases hp : p a
    · have : (x == a) = false := by
        simp only [beq_eq_false_iff_ne, ne_eq]; rintro rfl; simp [h] at hp
      simp [hp, List.lookup_cons, this, ih]
    · simp [hp, ih]

theorem lookup_append (m n : Memory) (x : Nat) :
    (m ++ n).lookup x = (m.lookup x).or (n.lookup x) := by
  induction m with
  | nil => simp
  | cons c m ih =>
    obtain ⟨a, b⟩ := c
    by_cases ha : x = a
    · subst ha; simp
    · have hb : (x == a) = false := by simp [ha]
      simp [List.lookup_cons, hb, ih]

theorem cells_lookup_low (a : Nat) (bs : List Byte) (x : Nat) (h : x < a) : (Memory.cells a bs).lookup x = none := by
  induction bs generalizing a with
  | nil => rfl
  | cons b bs ih =>
    unfold Memory.cells
    split
    · exact ih (a + 1) (by omega)
    · have : (x == a) = false := by simp; omega
      simp [List.lookup_cons, this, ih (a + 1) (by omega)]

theorem cells_lookup (a : Nat) (bs : List Byte) (x : Nat) (h : a ≤ x) :
    ((Memory.cells a bs).lookup x).getD 0#8 = bs.getD (x - a) 0#8 := by
  induction bs generalizing a with
  | nil => rfl
  | cons b bs ih =>
    unfold Memory.cells
    by_cases hx : x = a
    · subst hx
      split
      · rename_i hb; subst hb
        rw [cells_lookup_low _ _ _ (Nat.lt_succ_self _)]; simp
      · simp
    · have h1 : x - a = (x - (a + 1)) + 1 := by omega
      split
      · rw [ih (a + 1) (by omega), h1]; simp
      · have : (x == a) = false := by simp [hx]
        simp only [List.lookup_cons, this]
        rw [ih (a + 1) (by omega), h1]; simp

theorem cells_lookup_high (a : Nat) (bs : List Byte) (x : Nat) (h : a + bs.length ≤ x) :
    (Memory.cells a bs).lookup x = none := by
  induction bs generalizing a with
  | nil => rfl
  | cons b bs ih =>
    simp only [List.length_cons] at h
    unfold Memory.cells
    split
    · exact ih (a + 1) (by omega)
    · have : (x == a) = false := by simp; omega
      simp [List.lookup_cons, this, ih (a + 1) (by omega)]

/-- A write leaves every byte outside it alone. -/
theorem byte_splice_frame (m : Memory) (a : Nat) (bs : List Byte) (x : Nat) (h : x < a ∨ a + bs.length ≤ x) :
    (m.splice a bs).byte x = m.byte x := by
  unfold Memory.splice Memory.byte
  rw [lookup_append, lookup_append]
  rcases h with h | h
  · rw [lookup_filter_pos m (fun y => decide (y < a)) x (by simpa using h), cells_lookup_low _ _ _ h,
      lookup_filter_neg m (fun y => decide (a + bs.length ≤ y)) x (by simp; omega)]
    simp
  · rw [lookup_filter_neg m (fun y => decide (y < a)) x (by simp; omega),
      cells_lookup_high _ _ _ (by simp; omega),
      lookup_filter_pos m (fun y => decide (a + bs.length ≤ y)) x (by simpa using h)]
    simp

/-- A byte inside a write, and inside the window, reads as written. -/
theorem byte_splice_self (m : Memory) (a : Nat) (bs : List Byte) (x : Nat) (h1 : a ≤ x) (h2 : x < a + bs.length)
    (h3 : x < Config.windowBytes) : (m.splice a bs).byte x = bs.getD (x - a) 0#8 := by
  unfold Memory.splice Memory.byte
  rw [lookup_append, lookup_append, lookup_filter_neg m (fun y => decide (y < a)) x (by simp; omega),
    lookup_filter_neg m (fun y => decide (a + bs.length ≤ y)) x (by simp; omega)]
  simp only [Option.or_none, Option.none_or]
  rw [cells_lookup _ _ _ h1]
  simp only [List.getD_eq_getElem?_getD, List.getElem?_take]
  rw [if_pos (by omega)]

theorem wordBytes_length (v : Word) : (wordBytes v).length = 4 := rfl

theorem flatMap_wordBytes_length (vs : List Word) : (vs.flatMap wordBytes).length = 4 * vs.length := by
  induction vs with
  | nil => rfl
  | cons v vs ih => simp [List.flatMap_cons, wordBytes_length, ih]; omega

theorem getD_flatMap_wordBytes (vs : List Word) (i j : Nat) (hj : j < 4) :
    (vs.flatMap wordBytes).getD (4 * i + j) 0#8 = (vs.getD i 0#32).extractLsb' (8 * j) 8 := by
  induction vs generalizing i with
  | nil => simp
  | cons v vs ih =>
    rw [List.flatMap_cons]
    cases i with
    | zero =>
      rw [List.getD_append _ _ _ _ (by simp [wordBytes_length]; omega)]
      have : j = 0 ∨ j = 1 ∨ j = 2 ∨ j = 3 := by omega
      rcases this with rfl | rfl | rfl | rfl <;> rfl
    | succ i =>
      rw [List.getD_append_right _ _ _ _ (by simp [wordBytes_length]; omega)]
      have : 4 * (i + 1) + j - (wordBytes v).length = 4 * i + j := by simp [wordBytes_length]; omega
      rw [this, ih]; simp

theorem join_bytes (v : Word) :
    v.extractLsb' 24 8 ++ v.extractLsb' 16 8 ++ v.extractLsb' 8 8 ++ v.extractLsb' 0 8 = v := by
  apply BitVec.eq_of_getLsbD_eq
  intro i hi
  simp only [BitVec.getLsbD_append, BitVec.getLsbD_extractLsb']
  have : i < 8 ∨ (8 ≤ i ∧ i < 16) ∨ (16 ≤ i ∧ i < 24) ∨ (24 ≤ i ∧ i < 32) := by omega
  rcases this with h | h | h | h
  · simp [h]
  · have e : 8 + (i - 8) = i := by omega
    simp [show ¬ i < 8 by omega, show i - 8 < 8 by omega, e]
  · have e : 16 + (i - 8 - 8) = i := by omega
    simp [show ¬ i < 8 by omega, show ¬ i - 8 < 8 by omega, show i - 8 - 8 < 8 by omega, e]
  · have e : 24 + (i - 8 - 8 - 8) = i := by omega
    simp [show ¬ i < 8 by omega, show ¬ i - 8 < 8 by omega, show ¬ i - 8 - 8 < 8 by omega,
      show i - 8 - 8 - 8 < 8 by omega, e]

/-- Words written are read back, inside the window. -/
theorem word_setWords_self (m : Memory) (w : Nat) (vs : List Word) (i : Nat) (hi : i < vs.length) (hw : w + i < 2048) :
    (m.setWords w vs).word (w + i) = vs.getD i 0#32 := by
  have hl := flatMap_wordBytes_length vs
  have key : ∀ j, j < 4 → (m.setWords w vs).byte (4 * (w + i) + j) = (vs.getD i 0#32).extractLsb' (8 * j) 8 := by
    intro j hj
    unfold Memory.setWords
    rw [byte_splice_self _ _ _ _ (by omega) (by omega) (by simp [Config.windowBytes]; omega),
      show 4 * (w + i) + j - 4 * w = 4 * i + j by omega, getD_flatMap_wordBytes _ _ _ hj]
  unfold Memory.word
  rw [key 3 (by omega), key 2 (by omega), key 1 (by omega), show 4 * (w + i) = 4 * (w + i) + 0 by omega, key 0 (by omega)]
  exact join_bytes _

/-- Words outside a write of words stand. -/
theorem word_setWords_frame (m : Memory) (w : Nat) (vs : List Word) (x : Nat) (h : x < w ∨ w + vs.length ≤ x) :
    (m.setWords w vs).word x = m.word x := by
  have hl := flatMap_wordBytes_length vs
  have key : ∀ j, j < 4 → (m.setWords w vs).byte (4 * x + j) = m.byte (4 * x + j) := by
    intro j hj
    unfold Memory.setWords
    exact byte_splice_frame _ _ _ _ (by omega)
  unfold Memory.word
  rw [key 3 (by omega), key 2 (by omega), key 1 (by omega), show 4 * x = 4 * x + 0 by omega, key 0 (by omega)]

/-- Bytes outside a write of words stand. -/
theorem byte_setWords_frame (m : Memory) (w : Nat) (vs : List Word) (x : Nat) (h : x < 4 * w ∨ 4 * (w + vs.length) ≤ x) :
    (m.setWords w vs).byte x = m.byte x := by
  unfold Memory.setWords
  exact byte_splice_frame _ _ _ _ (by rw [flatMap_wordBytes_length]; omega)

theorem word_setWord_self (m : Memory) (w : Nat) (v : Word) (hw : w < 2048) : (m.setWord w v).word w = v :=
  word_setWords_self m w [v] 0 (by simp) (by omega)

theorem word_setWord_frame (m : Memory) (w : Nat) (v : Word) (x : Nat) (h : x ≠ w) : (m.setWord w v).word x = m.word x :=
  word_setWords_frame m w [v] x (by simp; omega)

theorem byte_setWord_frame (m : Memory) (w : Nat) (v : Word) (x : Nat) (h : x < 4 * w ∨ 4 * w + 4 ≤ x) :
    (m.setWord w v).byte x = m.byte x :=
  byte_setWords_frame m w [v] x (by simp; omega)

/-! ## The canonical form -/

theorem cells_bounds (a : Nat) (bs : List Byte) : ∀ c ∈ Memory.cells a bs, a ≤ c.1 ∧ c.1 < a + bs.length ∧ c.2 ≠ 0#8 := by
  induction bs generalizing a with
  | nil => simp [Memory.cells]
  | cons b bs ih =>
    intro c hc
    unfold Memory.cells at hc
    simp only [List.length_cons]
    split at hc
    · have := ih (a + 1) c hc; exact ⟨by omega, by omega, this.2.2⟩
    · rcases List.mem_cons.1 hc with rfl | hc
      · exact ⟨by simp, by simp, by assumption⟩
      · have := ih (a + 1) c hc; exact ⟨by omega, by omega, this.2.2⟩

theorem cells_pairwise (a : Nat) (bs : List Byte) : (Memory.cells a bs).Pairwise fun c d => c.1 < d.1 := by
  induction bs generalizing a with
  | nil => simp [Memory.cells]
  | cons b bs ih =>
    unfold Memory.cells
    split
    · exact ih (a + 1)
    · refine List.pairwise_cons.2 ⟨fun c hc => ?_, ih (a + 1)⟩
      have := (cells_bounds (a + 1) bs c hc).1; simp; omega

theorem wf_iff (m : Memory) : m.wf = true ↔
    m.Pairwise (fun c d => c.1 < d.1) ∧ ∀ c ∈ m, c.1 < Config.windowBytes ∧ c.2 ≠ 0#8 := by
  unfold Memory.wf
  simp [List.all_eq_true]

/-- Every write keeps the canonical form. -/
theorem wf_splice (m : Memory) (a : Nat) (bs : List Byte) (h : m.wf = true) : (m.splice a bs).wf = true := by
  rw [wf_iff] at h ⊢
  obtain ⟨hp, hb⟩ := h
  unfold Memory.splice
  refine ⟨?_, ?_⟩
  · rw [List.pairwise_append, List.pairwise_append]
    refine ⟨⟨hp.filter _, cells_pairwise _ _, ?_⟩, hp.filter _, ?_⟩
    · intro c hc d hd
      have h1 := (List.mem_filter.1 hc).2
      have h2 := (cells_bounds _ _ d hd).1
      simp at h1; omega
    · intro c hc d hd
      have h2 := (List.mem_filter.1 hd).2
      simp at h2
      rcases List.mem_append.1 hc with hc | hc
      · have h1 := (List.mem_filter.1 hc).2
        simp at h1; omega
      · have h1 := (cells_bounds _ _ c hc).2.1
        simp at h1; omega
  · intro c hc
    rcases List.mem_append.1 hc with hc | hc
    · rcases List.mem_append.1 hc with hc | hc
      · exact hb c (List.mem_filter.1 hc).1
      · have h1 := cells_bounds _ _ c hc
        simp at h1; exact ⟨by omega, h1.2.2⟩
    · exact hb c (List.mem_filter.1 hc).1

theorem wf_setWords (m : Memory) (w : Nat) (vs : List Word) (h : m.wf = true) : (m.setWords w vs).wf = true :=
  wf_splice _ _ _ h

theorem wf_setWord (m : Memory) (w : Nat) (v : Word) (h : m.wf = true) : (m.setWord w v).wf = true :=
  wf_splice _ _ _ h

theorem wf_empty : Memory.wf [] = true := rfl

end Sys2Proof.Laws
end

