-- ==== Sys2Proof/Laws/Frame.lean ====
section
/-! SUPPORT. What an operation can touch: `Keeps b s t` says that `t` differs from `s` in no block outside `b`, and that the
window keeps its canonical form. One lemma per shared operation; `h.psq rfl` reads a block's equation off. -/

namespace Sys2Proof.Laws

open Sys2Proof.Machine

/-- The blocks that an operation may change. -/
structure Blocks where
  sfe : Bool := false
  zc : Bool := false
  la : Bool := false
  fc : Bool := false
  psq : Bool := false
  hbw : Bool := false
  kps : Bool := false
  ind : Bool := false
  exc : Bool := false
  rpu : Bool := false
  sst : Bool := false
  mem : Bool := false
  part : Bool := false
  deriving DecidableEq, Repr

/-- The blocks of either. -/
def Blocks.or (a b : Blocks) : Blocks :=
  { sfe := a.sfe || b.sfe, zc := a.zc || b.zc, la := a.la || b.la, fc := a.fc || b.fc, psq := a.psq || b.psq,
    hbw := a.hbw || b.hbw, kps := a.kps || b.kps, ind := a.ind || b.ind, exc := a.exc || b.exc, rpu := a.rpu || b.rpu,
    sst := a.sst || b.sst, mem := a.mem || b.mem, part := a.part || b.part }

/-- `t` differs from `s` in no block outside `b`. `part` stands for the period timer; the clock, the ticks, the reset and the
command queue are changed by no operation inside a step. -/
structure Keeps (b : Blocks) (s t : State) : Prop where
  clock : t.clock = s.clock
  tickAt : t.tickAt = s.tickAt
  uptime : t.uptime = s.uptime
  resetting : t.resetting = s.resetting
  vddUp : t.vddUp = s.vddUp
  resetCause : t.resetCause = s.resetCause
  pending : t.pending = s.pending
  period : b.part = false → t.period = s.period
  sfe : b.sfe = false → t.sfe = s.sfe
  zc : b.zc = false → t.zc = s.zc
  la : b.la = false → t.la = s.la
  fc : b.fc = false → t.fc = s.fc
  psq : b.psq = false → t.psq = s.psq
  hbw : b.hbw = false → t.hbw = s.hbw
  kps : b.kps = false → t.kps = s.kps
  ind : b.ind = false → t.ind = s.ind
  exc : b.exc = false → t.exc = s.exc
  rpu : b.rpu = false → t.rpu = s.rpu
  sst : b.sst = false → t.sst = s.sst
  mem : b.mem = false → t.mem = s.mem
  wf : s.mem.wf = true → t.mem.wf = true

/-- Nothing changed. -/
theorem Keeps.refl (b : Blocks) (s : State) : Keeps b s s := by
  constructor <;> (intros; first | rfl | assumption)

/-- One change after another. -/
theorem Keeps.trans {b : Blocks} {s t u : State} (h : Keeps b s t) (k : Keeps b t u) : Keeps b s u where
  clock := k.clock.trans h.clock
  tickAt := k.tickAt.trans h.tickAt
  uptime := k.uptime.trans h.uptime
  resetting := k.resetting.trans h.resetting
  vddUp := k.vddUp.trans h.vddUp
  resetCause := k.resetCause.trans h.resetCause
  pending := k.pending.trans h.pending
  period := fun e => (k.period e).trans (h.period e)
  sfe := fun e => (k.sfe e).trans (h.sfe e)
  zc := fun e => (k.zc e).trans (h.zc e)
  la := fun e => (k.la e).trans (h.la e)
  fc := fun e => (k.fc e).trans (h.fc e)
  psq := fun e => (k.psq e).trans (h.psq e)
  hbw := fun e => (k.hbw e).trans (h.hbw e)
  kps := fun e => (k.kps e).trans (h.kps e)
  ind := fun e => (k.ind e).trans (h.ind e)
  exc := fun e => (k.exc e).trans (h.exc e)
  rpu := fun e => (k.rpu e).trans (h.rpu e)
  sst := fun e => (k.sst e).trans (h.sst e)
  mem := fun e => (k.mem e).trans (h.mem e)
  wf := fun e => k.wf (h.wf e)

/-- A smaller set of blocks is a larger one's. -/
theorem Keeps.mono {a b : Blocks} {s t : State} (h : Keeps a s t) (e : a.or b = b) : Keeps b s t := by
  have g : ∀ {x y : Bool}, (x || y) = y → y = false → x = false := by decide
  cases a; cases b
  simp only [Blocks.or, Blocks.mk.injEq] at e
  obtain ⟨e1, e2, e3, e4, e5, e6, e7, e8, e9, e10, e11, e12, e13⟩ := e
  exact
    { clock := h.clock, tickAt := h.tickAt, uptime := h.uptime, resetting := h.resetting, vddUp := h.vddUp,
      resetCause := h.resetCause, pending := h.pending, wf := h.wf
      sfe := fun f => h.sfe (g e1 f), zc := fun f => h.zc (g e2 f), la := fun f => h.la (g e3 f)
      fc := fun f => h.fc (g e4 f), psq := fun f => h.psq (g e5 f), hbw := fun f => h.hbw (g e6 f)
      kps := fun f => h.kps (g e7 f), ind := fun f => h.ind (g e8 f), exc := fun f => h.exc (g e9 f)
      rpu := fun f => h.rpu (g e10 f), sst := fun f => h.sst (g e11 f), mem := fun f => h.mem (g e12 f)
      period := fun f => h.period (g e13 f) }

/-! ## One block replaced -/

theorem Keeps.set_sfe {b : Blocks} {s t : State} (h : Keeps b s t) (e : b.sfe = true) (x : Vector Channel 6) :
    Keeps b s { t with sfe := x } := by
  cases h
  constructor <;> first | assumption | (intro h; rw [e] at h; exact Bool.noConfusion h)

theorem Keeps.set_zc {b : Blocks} {s t : State} (h : Keeps b s t) (e : b.zc = true) (x : ZoneController) :
    Keeps b s { t with zc := x } := by
  cases h
  constructor <;> first | assumption | (intro h; rw [e] at h; exact Bool.noConfusion h)

theorem Keeps.set_la {b : Blocks} {s t : State} (h : Keeps b s t) (e : b.la = true) (x : Allocator) :
    Keeps b s { t with la := x } := by
  cases h
  constructor <;> first | assumption | (intro h; rw [e] at h; exact Bool.noConfusion h)

theorem Keeps.set_fc {b : Blocks} {s t : State} (h : Keeps b s t) (e : b.fc = true) (x : FanController) :
    Keeps b s { t with fc := x } := by
  cases h
  constructor <;> first | assumption | (intro h; rw [e] at h; exact Bool.noConfusion h)

theorem Keeps.set_psq {b : Blocks} {s t : State} (h : Keeps b s t) (e : b.psq = true) (x : Sequencer) :
    Keeps b s { t with psq := x } := by
  cases h
  constructor <;> first | assumption | (intro h; rw [e] at h; exact Bool.noConfusion h)

theorem Keeps.set_hbw {b : Blocks} {s t : State} (h : Keeps b s t) (e : b.hbw = true) (x : HeartbeatWatch) :
    Keeps b s { t with hbw := x } := by
  cases h
  constructor <;> first | assumption | (intro h; rw [e] at h; exact Bool.noConfusion h)

theorem Keeps.set_kps {b : Blocks} {s t : State} (h : Keeps b s t) (e : b.kps = true) (x : Keypad) :
    Keeps b s { t with kps := x } := by
  cases h
  constructor <;> first | assumption | (intro h; rw [e] at h; exact Bool.noConfusion h)

theorem Keeps.set_ind {b : Blocks} {s t : State} (h : Keeps b s t) (e : b.ind = true) (x : Indicators) :
    Keeps b s { t with ind := x } := by
  cases h
  constructor <;> first | assumption | (intro h; rw [e] at h; exact Bool.noConfusion h)

theorem Keeps.set_exc {b : Blocks} {s t : State} (h : Keeps b s t) (e : b.exc = true) (x : Exchange) :
    Keeps b s { t with exc := x } := by
  cases h
  constructor <;> first | assumption | (intro h; rw [e] at h; exact Bool.noConfusion h)

theorem Keeps.set_rpu {b : Blocks} {s t : State} (h : Keeps b s t) (e : b.rpu = true) (x : ReportUnit) :
    Keeps b s { t with rpu := x } := by
  cases h
  constructor <;> first | assumption | (intro h; rw [e] at h; exact Bool.noConfusion h)

theorem Keeps.set_sst {b : Blocks} {s t : State} (h : Keeps b s t) (e : b.sst = true) (x : SettingsStore) :
    Keeps b s { t with sst := x } := by
  cases h
  constructor <;> first | assumption | (intro h; rw [e] at h; exact Bool.noConfusion h)

theorem Keeps.set_period {b : Blocks} {s t : State} (h : Keeps b s t) (e : b.part = true) (x : Timer) :
    Keeps b s { t with period := x } := by
  cases h
  constructor <;> first | assumption | (intro h; rw [e] at h; exact Bool.noConfusion h)

/-- A guarded effect touches what the effect touches. -/
theorem guarded_keeps {b : Blocks} (c : State → Bool) (f : State → State) (s : State) (h : Keeps b s (f s)) :
    Keeps b s (s.guarded c f) := by
  unfold State.guarded; split
  · exact h
  · exact .refl b s

/-- An effect on every position touches what it touches at one. -/
theorem eachPosition_keeps {b : Blocks} (f : Position → State → State) (s : State) (h : ∀ p s, Keeps b s (f p s)) :
    Keeps b s (s.eachPosition f) := by
  unfold State.eachPosition
  generalize List.finRange 48 = l
  induction l generalizing s with
  | nil => exact .refl b s
  | cons p l ih => exact (h p s).trans (ih (f p s))

/-- A change, then an effect on every position. -/
theorem Keeps.each {a b : Blocks} {s t : State} (h : Keeps b s t) (f : Position → State → State)
    (hf : ∀ p s, Keeps a s (f p s)) (e : a.or b = b) : Keeps b s (t.eachPosition f) :=
  h.trans ((eachPosition_keeps f t hf).mono e)

/-- A change, then the fold of an effect over a list. -/
theorem Keeps.fold {α : Type} {a b : Blocks} {s t : State} (h : Keeps b s t) (f : State → α → State)
    (hf : ∀ s x, Keeps a s (f s x)) (e : a.or b = b) (l : List α) : Keeps b s (l.foldl f t) := by
  induction l generalizing t with
  | nil => exact h
  | cons x l ih => exact ih (h.trans ((hf t x).mono e))

/-! ## Window words, notices and reports -/

theorem setWords_keeps (w : Nat) (vs : List Word) (s : State) : Keeps { mem := true } s (s.setWords w vs) := by
  constructor <;> first | rfl | (intro _; rfl) | (intro h; exact Bool.noConfusion h) | exact wf_setWords _ _ _

theorem setWord_keeps (w : Nat) (v : Word) (s : State) : Keeps { mem := true } s (s.setWord w v) := by
  constructor <;> first | rfl | (intro _; rfl) | (intro h; exact Bool.noConfusion h) | exact wf_setWord _ _ _

theorem setPending_keeps (n : BitVec 4) (s : State) : Keeps { rpu := true } s (s.setPending n) := by
  constructor <;> first | rfl | (intro _; rfl) | (intro h; exact Bool.noConfusion h) | exact fun h => h

theorem setEnable_keeps (n : BitVec 4) (s : State) : Keeps { rpu := true, exc := true } s (s.setEnable n) := by
  constructor <;> first | rfl | (intro _; rfl) | (intro h; exact Bool.noConfusion h) | exact fun h => h

theorem raise_keeps (n : BitVec 4) (s : State) : Keeps { rpu := true } s (s.raise n) := setPending_keeps _ s

theorem raiseAttached_keeps (n : BitVec 4) (s : State) : Keeps { rpu := true } s (s.raiseAttached n) := by
  unfold State.raiseAttached; split
  · exact raise_keeps n s
  · exact .refl _ s

theorem noticeClear_keeps (s : State) : Keeps { rpu := true, exc := true } s s.noticeClear :=
  ((setPending_keeps _ s).mono (by decide)).trans (setEnable_keeps _ _)

end Sys2Proof.Laws
end

