-- ==== Sys2Proof/Laws/State.lean ====
section
/-! SUPPORT. What each named update of the state leaves in each field: one lemma per field per update, true by definition. -/

namespace Sys2Proof.Laws

open Sys2Proof Sys2Proof.Machine

variable (s : State)

/-! ## elapse -/

@[simp] theorem elapse_clock (dt : Nat) : (s.elapse dt).clock = s.clock + dt := rfl
@[simp] theorem elapse_tickAt (dt : Nat) : (s.elapse dt).tickAt = s.tickAt := rfl
@[simp] theorem elapse_uptime (dt : Nat) : (s.elapse dt).uptime = s.uptime := rfl
@[simp] theorem elapse_resetting (dt : Nat) : (s.elapse dt).resetting = s.resetting := rfl
@[simp] theorem elapse_vddUp (dt : Nat) : (s.elapse dt).vddUp = s.vddUp := rfl
@[simp] theorem elapse_resetCause (dt : Nat) : (s.elapse dt).resetCause = s.resetCause := rfl
@[simp] theorem elapse_period (dt : Nat) : (s.elapse dt).period = s.period := rfl
@[simp] theorem elapse_sfe (dt : Nat) : (s.elapse dt).sfe = s.sfe := rfl
@[simp] theorem elapse_zc (dt : Nat) : (s.elapse dt).zc = s.zc := rfl
@[simp] theorem elapse_la (dt : Nat) : (s.elapse dt).la = s.la := rfl
@[simp] theorem elapse_fc (dt : Nat) : (s.elapse dt).fc = s.fc := rfl
@[simp] theorem elapse_psq (dt : Nat) : (s.elapse dt).psq = s.psq := rfl
@[simp] theorem elapse_hbw (dt : Nat) : (s.elapse dt).hbw = s.hbw := rfl
@[simp] theorem elapse_kps (dt : Nat) : (s.elapse dt).kps = s.kps := rfl
@[simp] theorem elapse_ind (dt : Nat) : (s.elapse dt).ind = s.ind := rfl
@[simp] theorem elapse_exc (dt : Nat) : (s.elapse dt).exc = s.exc := rfl
@[simp] theorem elapse_rpu (dt : Nat) : (s.elapse dt).rpu = s.rpu := rfl
@[simp] theorem elapse_sst (dt : Nat) : (s.elapse dt).sst = s.sst := rfl
@[simp] theorem elapse_mem (dt : Nat) : (s.elapse dt).mem = s.mem := rfl
@[simp] theorem elapse_pending (dt : Nat) : (s.elapse dt).pending = s.pending := rfl

/-! ## setWords -/

@[simp] theorem setWords_clock (w : Nat) (vs : List Word) : (s.setWords w vs).clock = s.clock := rfl
@[simp] theorem setWords_tickAt (w : Nat) (vs : List Word) : (s.setWords w vs).tickAt = s.tickAt := rfl
@[simp] theorem setWords_uptime (w : Nat) (vs : List Word) : (s.setWords w vs).uptime = s.uptime := rfl
@[simp] theorem setWords_resetting (w : Nat) (vs : List Word) : (s.setWords w vs).resetting = s.resetting := rfl
@[simp] theorem setWords_vddUp (w : Nat) (vs : List Word) : (s.setWords w vs).vddUp = s.vddUp := rfl
@[simp] theorem setWords_resetCause (w : Nat) (vs : List Word) : (s.setWords w vs).resetCause = s.resetCause := rfl
@[simp] theorem setWords_period (w : Nat) (vs : List Word) : (s.setWords w vs).period = s.period := rfl
@[simp] theorem setWords_sfe (w : Nat) (vs : List Word) : (s.setWords w vs).sfe = s.sfe := rfl
@[simp] theorem setWords_zc (w : Nat) (vs : List Word) : (s.setWords w vs).zc = s.zc := rfl
@[simp] theorem setWords_la (w : Nat) (vs : List Word) : (s.setWords w vs).la = s.la := rfl
@[simp] theorem setWords_fc (w : Nat) (vs : List Word) : (s.setWords w vs).fc = s.fc := rfl
@[simp] theorem setWords_psq (w : Nat) (vs : List Word) : (s.setWords w vs).psq = s.psq := rfl
@[simp] theorem setWords_hbw (w : Nat) (vs : List Word) : (s.setWords w vs).hbw = s.hbw := rfl
@[simp] theorem setWords_kps (w : Nat) (vs : List Word) : (s.setWords w vs).kps = s.kps := rfl
@[simp] theorem setWords_ind (w : Nat) (vs : List Word) : (s.setWords w vs).ind = s.ind := rfl
@[simp] theorem setWords_exc (w : Nat) (vs : List Word) : (s.setWords w vs).exc = s.exc := rfl
@[simp] theorem setWords_rpu (w : Nat) (vs : List Word) : (s.setWords w vs).rpu = s.rpu := rfl
@[simp] theorem setWords_sst (w : Nat) (vs : List Word) : (s.setWords w vs).sst = s.sst := rfl
@[simp] theorem setWords_mem (w : Nat) (vs : List Word) : (s.setWords w vs).mem = s.mem.setWords w vs := rfl
@[simp] theorem setWords_pending (w : Nat) (vs : List Word) : (s.setWords w vs).pending = s.pending := rfl

/-! ## setWord -/

@[simp] theorem setWord_clock (w : Nat) (v : Word) : (s.setWord w v).clock = s.clock := rfl
@[simp] theorem setWord_tickAt (w : Nat) (v : Word) : (s.setWord w v).tickAt = s.tickAt := rfl
@[simp] theorem setWord_uptime (w : Nat) (v : Word) : (s.setWord w v).uptime = s.uptime := rfl
@[simp] theorem setWord_resetting (w : Nat) (v : Word) : (s.setWord w v).resetting = s.resetting := rfl
@[simp] theorem setWord_vddUp (w : Nat) (v : Word) : (s.setWord w v).vddUp = s.vddUp := rfl
@[simp] theorem setWord_resetCause (w : Nat) (v : Word) : (s.setWord w v).resetCause = s.resetCause := rfl
@[simp] theorem setWord_period (w : Nat) (v : Word) : (s.setWord w v).period = s.period := rfl
@[simp] theorem setWord_sfe (w : Nat) (v : Word) : (s.setWord w v).sfe = s.sfe := rfl
@[simp] theorem setWord_zc (w : Nat) (v : Word) : (s.setWord w v).zc = s.zc := rfl
@[simp] theorem setWord_la (w : Nat) (v : Word) : (s.setWord w v).la = s.la := rfl
@[simp] theorem setWord_fc (w : Nat) (v : Word) : (s.setWord w v).fc = s.fc := rfl
@[simp] theorem setWord_psq (w : Nat) (v : Word) : (s.setWord w v).psq = s.psq := rfl
@[simp] theorem setWord_hbw (w : Nat) (v : Word) : (s.setWord w v).hbw = s.hbw := rfl
@[simp] theorem setWord_kps (w : Nat) (v : Word) : (s.setWord w v).kps = s.kps := rfl
@[simp] theorem setWord_ind (w : Nat) (v : Word) : (s.setWord w v).ind = s.ind := rfl
@[simp] theorem setWord_exc (w : Nat) (v : Word) : (s.setWord w v).exc = s.exc := rfl
@[simp] theorem setWord_rpu (w : Nat) (v : Word) : (s.setWord w v).rpu = s.rpu := rfl
@[simp] theorem setWord_sst (w : Nat) (v : Word) : (s.setWord w v).sst = s.sst := rfl
@[simp] theorem setWord_mem (w : Nat) (v : Word) : (s.setWord w v).mem = s.mem.setWord w v := rfl
@[simp] theorem setWord_pending (w : Nat) (v : Word) : (s.setWord w v).pending = s.pending := rfl

/-! ## setPending -/

@[simp] theorem setPending_clock (n : BitVec 4) : (s.setPending n).clock = s.clock := rfl
@[simp] theorem setPending_tickAt (n : BitVec 4) : (s.setPending n).tickAt = s.tickAt := rfl
@[simp] theorem setPending_uptime (n : BitVec 4) : (s.setPending n).uptime = s.uptime := rfl
@[simp] theorem setPending_resetting (n : BitVec 4) : (s.setPending n).resetting = s.resetting := rfl
@[simp] theorem setPending_vddUp (n : BitVec 4) : (s.setPending n).vddUp = s.vddUp := rfl
@[simp] theorem setPending_resetCause (n : BitVec 4) : (s.setPending n).resetCause = s.resetCause := rfl
@[simp] theorem setPending_period (n : BitVec 4) : (s.setPending n).period = s.period := rfl
@[simp] theorem setPending_sfe (n : BitVec 4) : (s.setPending n).sfe = s.sfe := rfl
@[simp] theorem setPending_zc (n : BitVec 4) : (s.setPending n).zc = s.zc := rfl
@[simp] theorem setPending_la (n : BitVec 4) : (s.setPending n).la = s.la := rfl
@[simp] theorem setPending_fc (n : BitVec 4) : (s.setPending n).fc = s.fc := rfl
@[simp] theorem setPending_psq (n : BitVec 4) : (s.setPending n).psq = s.psq := rfl
@[simp] theorem setPending_hbw (n : BitVec 4) : (s.setPending n).hbw = s.hbw := rfl
@[simp] theorem setPending_kps (n : BitVec 4) : (s.setPending n).kps = s.kps := rfl
@[simp] theorem setPending_ind (n : BitVec 4) : (s.setPending n).ind = s.ind := rfl
@[simp] theorem setPending_exc (n : BitVec 4) : (s.setPending n).exc = s.exc := rfl
@[simp] theorem setPending_rpu (n : BitVec 4) : (s.setPending n).rpu = { s.rpu with pending := n, attn := attnOf n s.exc.enable } := rfl
@[simp] theorem setPending_sst (n : BitVec 4) : (s.setPending n).sst = s.sst := rfl
@[simp] theorem setPending_mem (n : BitVec 4) : (s.setPending n).mem = s.mem := rfl
@[simp] theorem setPending_pending (n : BitVec 4) : (s.setPending n).pending = s.pending := rfl

/-! ## setEnable -/

@[simp] theorem setEnable_clock (e : BitVec 4) : (s.setEnable e).clock = s.clock := rfl
@[simp] theorem setEnable_tickAt (e : BitVec 4) : (s.setEnable e).tickAt = s.tickAt := rfl
@[simp] theorem setEnable_uptime (e : BitVec 4) : (s.setEnable e).uptime = s.uptime := rfl
@[simp] theorem setEnable_resetting (e : BitVec 4) : (s.setEnable e).resetting = s.resetting := rfl
@[simp] theorem setEnable_vddUp (e : BitVec 4) : (s.setEnable e).vddUp = s.vddUp := rfl
@[simp] theorem setEnable_resetCause (e : BitVec 4) : (s.setEnable e).resetCause = s.resetCause := rfl
@[simp] theorem setEnable_period (e : BitVec 4) : (s.setEnable e).period = s.period := rfl
@[simp] theorem setEnable_sfe (e : BitVec 4) : (s.setEnable e).sfe = s.sfe := rfl
@[simp] theorem setEnable_zc (e : BitVec 4) : (s.setEnable e).zc = s.zc := rfl
@[simp] theorem setEnable_la (e : BitVec 4) : (s.setEnable e).la = s.la := rfl
@[simp] theorem setEnable_fc (e : BitVec 4) : (s.setEnable e).fc = s.fc := rfl
@[simp] theorem setEnable_psq (e : BitVec 4) : (s.setEnable e).psq = s.psq := rfl
@[simp] theorem setEnable_hbw (e : BitVec 4) : (s.setEnable e).hbw = s.hbw := rfl
@[simp] theorem setEnable_kps (e : BitVec 4) : (s.setEnable e).kps = s.kps := rfl
@[simp] theorem setEnable_ind (e : BitVec 4) : (s.setEnable e).ind = s.ind := rfl
@[simp] theorem setEnable_exc (e : BitVec 4) : (s.setEnable e).exc = { s.exc with enable := e } := rfl
@[simp] theorem setEnable_rpu (e : BitVec 4) : (s.setEnable e).rpu = { s.rpu with attn := attnOf s.rpu.pending e } := rfl
@[simp] theorem setEnable_sst (e : BitVec 4) : (s.setEnable e).sst = s.sst := rfl
@[simp] theorem setEnable_mem (e : BitVec 4) : (s.setEnable e).mem = s.mem := rfl
@[simp] theorem setEnable_pending (e : BitVec 4) : (s.setEnable e).pending = s.pending := rfl

/-! ## setKey -/

@[simp] theorem setKey_clock (p : Position) (k : Key) : (s.setKey p k).clock = s.clock := rfl
@[simp] theorem setKey_tickAt (p : Position) (k : Key) : (s.setKey p k).tickAt = s.tickAt := rfl
@[simp] theorem setKey_uptime (p : Position) (k : Key) : (s.setKey p k).uptime = s.uptime := rfl
@[simp] theorem setKey_resetting (p : Position) (k : Key) : (s.setKey p k).resetting = s.resetting := rfl
@[simp] theorem setKey_vddUp (p : Position) (k : Key) : (s.setKey p k).vddUp = s.vddUp := rfl
@[simp] theorem setKey_resetCause (p : Position) (k : Key) : (s.setKey p k).resetCause = s.resetCause := rfl
@[simp] theorem setKey_period (p : Position) (k : Key) : (s.setKey p k).period = s.period := rfl
@[simp] theorem setKey_sfe (p : Position) (k : Key) : (s.setKey p k).sfe = s.sfe := rfl
@[simp] theorem setKey_zc (p : Position) (k : Key) : (s.setKey p k).zc = s.zc := rfl
@[simp] theorem setKey_la (p : Position) (k : Key) : (s.setKey p k).la = s.la := rfl
@[simp] theorem setKey_fc (p : Position) (k : Key) : (s.setKey p k).fc = s.fc := rfl
@[simp] theorem setKey_psq (p : Position) (k : Key) : (s.setKey p k).psq = s.psq := rfl
@[simp] theorem setKey_hbw (p : Position) (k : Key) : (s.setKey p k).hbw = s.hbw := rfl
@[simp] theorem setKey_kps (p : Position) (k : Key) : (s.setKey p k).kps = { s.kps with keys := s.kps.keys.set p k } := rfl
@[simp] theorem setKey_ind (p : Position) (k : Key) : (s.setKey p k).ind = s.ind := rfl
@[simp] theorem setKey_exc (p : Position) (k : Key) : (s.setKey p k).exc = s.exc := rfl
@[simp] theorem setKey_rpu (p : Position) (k : Key) : (s.setKey p k).rpu = s.rpu := rfl
@[simp] theorem setKey_sst (p : Position) (k : Key) : (s.setKey p k).sst = s.sst := rfl
@[simp] theorem setKey_mem (p : Position) (k : Key) : (s.setKey p k).mem = s.mem := rfl
@[simp] theorem setKey_pending (p : Position) (k : Key) : (s.setKey p k).pending = s.pending := rfl

/-! ## setFan -/

@[simp] theorem setFan_clock (n : Fin 2) (f : Fan) : (s.setFan n f).clock = s.clock := rfl
@[simp] theorem setFan_tickAt (n : Fin 2) (f : Fan) : (s.setFan n f).tickAt = s.tickAt := rfl
@[simp] theorem setFan_uptime (n : Fin 2) (f : Fan) : (s.setFan n f).uptime = s.uptime := rfl
@[simp] theorem setFan_resetting (n : Fin 2) (f : Fan) : (s.setFan n f).resetting = s.resetting := rfl
@[simp] theorem setFan_vddUp (n : Fin 2) (f : Fan) : (s.setFan n f).vddUp = s.vddUp := rfl
@[simp] theorem setFan_resetCause (n : Fin 2) (f : Fan) : (s.setFan n f).resetCause = s.resetCause := rfl
@[simp] theorem setFan_period (n : Fin 2) (f : Fan) : (s.setFan n f).period = s.period := rfl
@[simp] theorem setFan_sfe (n : Fin 2) (f : Fan) : (s.setFan n f).sfe = s.sfe := rfl
@[simp] theorem setFan_zc (n : Fin 2) (f : Fan) : (s.setFan n f).zc = s.zc := rfl
@[simp] theorem setFan_la (n : Fin 2) (f : Fan) : (s.setFan n f).la = s.la := rfl
@[simp] theorem setFan_fc (n : Fin 2) (f : Fan) : (s.setFan n f).fc = { s.fc with fans := s.fc.fans.set n f } := rfl
@[simp] theorem setFan_psq (n : Fin 2) (f : Fan) : (s.setFan n f).psq = s.psq := rfl
@[simp] theorem setFan_hbw (n : Fin 2) (f : Fan) : (s.setFan n f).hbw = s.hbw := rfl
@[simp] theorem setFan_kps (n : Fin 2) (f : Fan) : (s.setFan n f).kps = s.kps := rfl
@[simp] theorem setFan_ind (n : Fin 2) (f : Fan) : (s.setFan n f).ind = s.ind := rfl
@[simp] theorem setFan_exc (n : Fin 2) (f : Fan) : (s.setFan n f).exc = s.exc := rfl
@[simp] theorem setFan_rpu (n : Fin 2) (f : Fan) : (s.setFan n f).rpu = s.rpu := rfl
@[simp] theorem setFan_sst (n : Fin 2) (f : Fan) : (s.setFan n f).sst = s.sst := rfl
@[simp] theorem setFan_mem (n : Fin 2) (f : Fan) : (s.setFan n f).mem = s.mem := rfl
@[simp] theorem setFan_pending (n : Fin 2) (f : Fan) : (s.setFan n f).pending = s.pending := rfl

/-! ## placeSetting -/

@[simp] theorem placeSetting_clock (n : Nat) (v : Int) : (s.placeSetting n v).clock = s.clock := rfl
@[simp] theorem placeSetting_tickAt (n : Nat) (v : Int) : (s.placeSetting n v).tickAt = s.tickAt := rfl
@[simp] theorem placeSetting_uptime (n : Nat) (v : Int) : (s.placeSetting n v).uptime = s.uptime := rfl
@[simp] theorem placeSetting_resetting (n : Nat) (v : Int) : (s.placeSetting n v).resetting = s.resetting := rfl
@[simp] theorem placeSetting_vddUp (n : Nat) (v : Int) : (s.placeSetting n v).vddUp = s.vddUp := rfl
@[simp] theorem placeSetting_resetCause (n : Nat) (v : Int) : (s.placeSetting n v).resetCause = s.resetCause := rfl
@[simp] theorem placeSetting_period (n : Nat) (v : Int) : (s.placeSetting n v).period = s.period := rfl
@[simp] theorem placeSetting_sfe (n : Nat) (v : Int) : (s.placeSetting n v).sfe = s.sfe := rfl
@[simp] theorem placeSetting_zc (n : Nat) (v : Int) : (s.placeSetting n v).zc = s.zc := rfl
@[simp] theorem placeSetting_la (n : Nat) (v : Int) : (s.placeSetting n v).la = s.la := rfl
@[simp] theorem placeSetting_fc (n : Nat) (v : Int) : (s.placeSetting n v).fc = s.fc := rfl
@[simp] theorem placeSetting_psq (n : Nat) (v : Int) : (s.placeSetting n v).psq = s.psq := rfl
@[simp] theorem placeSetting_hbw (n : Nat) (v : Int) : (s.placeSetting n v).hbw = s.hbw := rfl
@[simp] theorem placeSetting_kps (n : Nat) (v : Int) : (s.placeSetting n v).kps = s.kps := rfl
@[simp] theorem placeSetting_ind (n : Nat) (v : Int) : (s.placeSetting n v).ind = s.ind := rfl
@[simp] theorem placeSetting_exc (n : Nat) (v : Int) : (s.placeSetting n v).exc = s.exc := rfl
@[simp] theorem placeSetting_rpu (n : Nat) (v : Int) : (s.placeSetting n v).rpu = s.rpu := rfl
@[simp] theorem placeSetting_sst (n : Nat) (v : Int) : (s.placeSetting n v).sst = { s.sst with table := Sys2Proof.Machine.placeSetting n v s.sst.table } := rfl
@[simp] theorem placeSetting_mem (n : Nat) (v : Int) : (s.placeSetting n v).mem = s.mem := rfl
@[simp] theorem placeSetting_pending (n : Nat) (v : Int) : (s.placeSetting n v).pending = s.pending := rfl

/-! ## watchOff -/

@[simp] theorem watchOff_clock : (s.watchOff).clock = s.clock := rfl
@[simp] theorem watchOff_tickAt : (s.watchOff).tickAt = s.tickAt := rfl
@[simp] theorem watchOff_uptime : (s.watchOff).uptime = s.uptime := rfl
@[simp] theorem watchOff_resetting : (s.watchOff).resetting = s.resetting := rfl
@[simp] theorem watchOff_vddUp : (s.watchOff).vddUp = s.vddUp := rfl
@[simp] theorem watchOff_resetCause : (s.watchOff).resetCause = s.resetCause := rfl
@[simp] theorem watchOff_period : (s.watchOff).period = s.period := rfl
@[simp] theorem watchOff_sfe : (s.watchOff).sfe = s.sfe := rfl
@[simp] theorem watchOff_zc : (s.watchOff).zc = s.zc := rfl
@[simp] theorem watchOff_la : (s.watchOff).la = s.la := rfl
@[simp] theorem watchOff_fc : (s.watchOff).fc = s.fc := rfl
@[simp] theorem watchOff_psq : (s.watchOff).psq = s.psq := rfl
@[simp] theorem watchOff_hbw : (s.watchOff).hbw = { s.hbw with phase := .none, boot := none, watch := none, grace := none } := rfl
@[simp] theorem watchOff_kps : (s.watchOff).kps = s.kps := rfl
@[simp] theorem watchOff_ind : (s.watchOff).ind = s.ind := rfl
@[simp] theorem watchOff_exc : (s.watchOff).exc = s.exc := rfl
@[simp] theorem watchOff_rpu : (s.watchOff).rpu = s.rpu := rfl
@[simp] theorem watchOff_sst : (s.watchOff).sst = s.sst := rfl
@[simp] theorem watchOff_mem : (s.watchOff).mem = s.mem := rfl
@[simp] theorem watchOff_pending : (s.watchOff).pending = s.pending := rfl

/-! ## lampTestRequest -/

@[simp] theorem lampTestRequest_clock : (s.lampTestRequest).clock = s.clock := rfl
@[simp] theorem lampTestRequest_tickAt : (s.lampTestRequest).tickAt = s.tickAt := rfl
@[simp] theorem lampTestRequest_uptime : (s.lampTestRequest).uptime = s.uptime := rfl
@[simp] theorem lampTestRequest_resetting : (s.lampTestRequest).resetting = s.resetting := rfl
@[simp] theorem lampTestRequest_vddUp : (s.lampTestRequest).vddUp = s.vddUp := rfl
@[simp] theorem lampTestRequest_resetCause : (s.lampTestRequest).resetCause = s.resetCause := rfl
@[simp] theorem lampTestRequest_period : (s.lampTestRequest).period = s.period := rfl
@[simp] theorem lampTestRequest_sfe : (s.lampTestRequest).sfe = s.sfe := rfl
@[simp] theorem lampTestRequest_zc : (s.lampTestRequest).zc = s.zc := rfl
@[simp] theorem lampTestRequest_la : (s.lampTestRequest).la = s.la := rfl
@[simp] theorem lampTestRequest_fc : (s.lampTestRequest).fc = s.fc := rfl
@[simp] theorem lampTestRequest_psq : (s.lampTestRequest).psq = s.psq := rfl
@[simp] theorem lampTestRequest_hbw : (s.lampTestRequest).hbw = s.hbw := rfl
@[simp] theorem lampTestRequest_kps : (s.lampTestRequest).kps = s.kps := rfl
@[simp] theorem lampTestRequest_ind : (s.lampTestRequest).ind = { s.ind with lampTest := some s.clock } := rfl
@[simp] theorem lampTestRequest_exc : (s.lampTestRequest).exc = s.exc := rfl
@[simp] theorem lampTestRequest_rpu : (s.lampTestRequest).rpu = s.rpu := rfl
@[simp] theorem lampTestRequest_sst : (s.lampTestRequest).sst = s.sst := rfl
@[simp] theorem lampTestRequest_mem : (s.lampTestRequest).mem = s.mem := rfl
@[simp] theorem lampTestRequest_pending : (s.lampTestRequest).pending = s.pending := rfl

/-! ## enqueueFront -/

@[simp] theorem enqueueFront_clock (c : Instr) : (s.enqueueFront c).clock = s.clock := rfl
@[simp] theorem enqueueFront_tickAt (c : Instr) : (s.enqueueFront c).tickAt = s.tickAt := rfl
@[simp] theorem enqueueFront_uptime (c : Instr) : (s.enqueueFront c).uptime = s.uptime := rfl
@[simp] theorem enqueueFront_resetting (c : Instr) : (s.enqueueFront c).resetting = s.resetting := rfl
@[simp] theorem enqueueFront_vddUp (c : Instr) : (s.enqueueFront c).vddUp = s.vddUp := rfl
@[simp] theorem enqueueFront_resetCause (c : Instr) : (s.enqueueFront c).resetCause = s.resetCause := rfl
@[simp] theorem enqueueFront_period (c : Instr) : (s.enqueueFront c).period = s.period := rfl
@[simp] theorem enqueueFront_sfe (c : Instr) : (s.enqueueFront c).sfe = s.sfe := rfl
@[simp] theorem enqueueFront_zc (c : Instr) : (s.enqueueFront c).zc = s.zc := rfl
@[simp] theorem enqueueFront_la (c : Instr) : (s.enqueueFront c).la = s.la := rfl
@[simp] theorem enqueueFront_fc (c : Instr) : (s.enqueueFront c).fc = s.fc := rfl
@[simp] theorem enqueueFront_psq (c : Instr) : (s.enqueueFront c).psq = s.psq := rfl
@[simp] theorem enqueueFront_hbw (c : Instr) : (s.enqueueFront c).hbw = s.hbw := rfl
@[simp] theorem enqueueFront_kps (c : Instr) : (s.enqueueFront c).kps = s.kps := rfl
@[simp] theorem enqueueFront_ind (c : Instr) : (s.enqueueFront c).ind = s.ind := rfl
@[simp] theorem enqueueFront_exc (c : Instr) : (s.enqueueFront c).exc = s.exc := rfl
@[simp] theorem enqueueFront_rpu (c : Instr) : (s.enqueueFront c).rpu = s.rpu := rfl
@[simp] theorem enqueueFront_sst (c : Instr) : (s.enqueueFront c).sst = s.sst := rfl
@[simp] theorem enqueueFront_mem (c : Instr) : (s.enqueueFront c).mem = s.mem := rfl
@[simp] theorem enqueueFront_pending (c : Instr) : (s.enqueueFront c).pending = c :: s.pending := rfl

/-! ## Readers over updates -/

@[simp] theorem setting_elapse (dt n : Nat) : (s.elapse dt).setting n = s.setting n := rfl

@[simp] theorem word_elapse (dt w : Nat) : (s.elapse dt).word w = s.word w := rfl

@[simp] theorem entry_elapse (dt : Nat) (p : Position) : (s.elapse dt).entry p = s.entry p := rfl

@[simp] theorem key_elapse (dt : Nat) (p : Position) : (s.elapse dt).key p = s.key p := rfl

@[simp] theorem entry_setKey (p q : Position) (k : Key) : (s.setKey p k).entry q = s.entry q := rfl

@[simp] theorem key_setKey_self (p : Position) (k : Key) : (s.setKey p k).key p = k := by
  simp [State.key, State.setKey]

theorem key_setKey_of_ne {p q : Position} (h : q ≠ p) (k : Key) : (s.setKey p k).key q = s.key q := by
  have : p.val ≠ q.val := fun e => h (Fin.ext e.symm)
  simp [State.key, State.setKey, this]

end Sys2Proof.Laws
end

