-- ==== Sys2Proof/Laws/Touch.lean ====
section
/-! SUPPORT. What each shared operation can touch, one lemma an operation (`Keeps` of Laws/Frame.lean). -/

namespace Sys2Proof.Laws

open Sys2Proof.Machine

/-! ## Reports -/

theorem writeReport_keeps (r : Report) (s : State) : Keeps { rpu := true, mem := true } s (s.writeReport r) := by
  unfold State.writeReport
  refine ((setWords_keeps s.reportSlot r.words s).mono (by decide)).trans
    (Keeps.trans (t := _) ?_ ((raiseAttached_keeps _ _).mono (by decide)))
  constructor <;> first | rfl | (intro _; rfl) | (intro h; exact Bool.noConfusion h) | exact fun h => h

theorem drainHeld_keeps (l : List Report) (s : State) : Keeps { rpu := true, mem := true } s (State.drainHeld l s) := by
  induction l generalizing s with
  | nil => constructor <;> first | rfl | (intro _; rfl) | (intro h; exact Bool.noConfusion h) | exact fun h => h
  | cons r l ih =>
    unfold State.drainHeld; split
    · exact (writeReport_keeps r s).trans (ih _)
    · constructor <;> first | rfl | (intro _; rfl) | (intro h; exact Bool.noConfusion h) | exact fun h => h

theorem writeOverflow_keeps (s : State) : Keeps { rpu := true, mem := true } s (s.writeOverflow) := by
  unfold State.writeOverflow
  refine Keeps.trans (t := _) ?_ (writeReport_keeps _ _)
  constructor <;> first | rfl | (intro _; rfl) | (intro h; exact Bool.noConfusion h) | exact fun h => h

theorem drain_keeps (s : State) : Keeps { rpu := true, mem := true } s (s.drain) := by
  have h : Keeps { rpu := true, mem := true } s
      (if s.rpu.view.isSome then State.drainHeld s.rpu.holding s else s) := by
    split
    · exact drainHeld_keeps _ s
    · exact .refl _ s
  unfold State.drain
  revert h
  generalize (if s.rpu.view.isSome then State.drainHeld s.rpu.holding s else s) = u
  intro h
  dsimp only
  split
  · exact h.trans (writeOverflow_keeps _)
  · exact h

theorem holdReport_keeps (r : Report) (s : State) : Keeps { rpu := true } s (s.holdReport r) := by
  constructor <;> first | rfl | (intro _; rfl) | (intro h; exact Bool.noConfusion h) | exact fun h => h

theorem createReport_keeps (n : ReportBody) (s : State) : Keeps { rpu := true, mem := true } s (s.createReport n) := by
  unfold State.createReport
  dsimp only
  split
  · refine (drain_keeps s).trans (Keeps.trans (t := _) ?_ (writeReport_keeps _ _))
    constructor <;> first | rfl | (intro _; rfl) | (intro h; exact Bool.noConfusion h) | exact fun h => h
  · refine (drain_keeps s).trans (Keeps.trans (t := _) ?_ ((holdReport_keeps _ _).mono (by decide)))
    constructor <;> first | rfl | (intro _; rfl) | (intro h; exact Bool.noConfusion h) | exact fun h => h

theorem createReports_keeps (l : List ReportBody) (s : State) : Keeps { rpu := true, mem := true } s (s.createReports l) := by
  unfold State.createReports
  induction l generalizing s with
  | nil => exact .refl _ s
  | cons n l ih => exact (createReport_keeps n s).trans (ih _)

/-! ## HBW and the detach -/

theorem detach_keeps (r : DetachReason) (s : State) : Keeps { exc := true, rpu := true } s (s.detach r) := by
  unfold State.detach; split <;> constructor <;> first | rfl | (intro _; rfl) | (intro h; exact Bool.noConfusion h) | exact fun h => h

theorem setHistory_keeps (l : List HistoryRecord) (s : State) : Keeps { hbw := true, mem := true } s (s.setHistory l) := by
  unfold State.setHistory
  refine Keeps.trans (t := _) ?_ ((setWords_keeps _ _ _).mono (by decide))
  constructor <;> first | rfl | (intro _; rfl) | (intro h; exact Bool.noConfusion h) | exact fun h => h

theorem recordFailure_keeps (r : HistoryRecord) (s : State) : Keeps { hbw := true, mem := true } s (s.recordFailure r) := by
  unfold State.recordFailure
  refine (setHistory_keeps (makeRoom s.hbw.history ++ [r]) s).trans ?_
  constructor <;> first | rfl | (intro _; rfl) | (intro h; exact Bool.noConfusion h) | exact fun h => h

theorem serviceFloor_keeps (s : State) : Keeps { hbw := true, mem := true } s (s.serviceFloor) :=
  setHistory_keeps _ s

theorem ageHistory_keeps (s : State) : Keeps { hbw := true, mem := true } s (s.ageHistory) := by
  unfold State.ageHistory; split
  · exact setHistory_keeps _ s
  · exact .refl _ s

theorem watchOff_keeps (s : State) : Keeps { hbw := true } s (s.watchOff) := by
  constructor <;> first | rfl | (intro _; rfl) | (intro h; exact Bool.noConfusion h) | exact fun h => h

theorem watchOn_keeps (s : State) : Keeps { hbw := true } s (s.watchOn) := by
  constructor <;> first | rfl | (intro _; rfl) | (intro h; exact Bool.noConfusion h) | exact fun h => h

theorem watchEntered_keeps (st : SeqState) (s : State) : Keeps { hbw := true } s (s.watchEntered st) := by
  unfold State.watchEntered; split
  · exact .refl _ s
  · exact .refl _ s
  all_goals exact watchOff_keeps s

theorem watchBooting_keeps (d : Nat) (s : State) : Keeps { hbw := true, rpu := true, mem := true } s (s.watchBooting d) := by
  unfold State.watchBooting
  refine Keeps.set_hbw (Keeps.trans (t := _) ?_ ((createReport_keeps _ _).mono (by decide))) rfl _
  exact Keeps.set_hbw (.refl _ s) rfl _

theorem pinResetHistory_keeps (s : State) : Keeps { hbw := true, mem := true } s (s.pinResetHistory) := by
  unfold State.pinResetHistory
  refine Keeps.trans (t := _) ?_ ((serviceFloor_keeps _).trans (recordFailure_keeps _ _))
  constructor <;> first | rfl | (intro _; rfl) | (intro h; exact Bool.noConfusion h) | exact fun h => h

/-! ## PSQ -/

theorem mainOff_keeps (s : State) : Keeps { zc := true } s (s.mainOff) := by
  constructor <;> first | rfl | (intro _; rfl) | (intro h; exact Bool.noConfusion h) | exact fun h => h

theorem takeDown_keeps (b : Bool) (s : State) : Keeps { psq := true, zc := true, exc := true, rpu := true } s (s.takeDown b) := by
  have h : Keeps { psq := true, zc := true, exc := true, rpu := true } s ((s.detach .hostRestart).noticeClear) :=
    ((detach_keeps _ s).mono (by decide)).trans ((noticeClear_keeps _).mono (by decide))
  unfold State.takeDown
  dsimp only
  split
  · refine h.trans (Keeps.trans (t := _) ?_ ((mainOff_keeps _).mono (by decide)))
    constructor <;> first | rfl | (intro _; rfl) | (intro h; exact Bool.noConfusion h) | exact fun h => h
  · refine h.trans ?_
    constructor <;> first | rfl | (intro _; rfl) | (intro h; exact Bool.noConfusion h) | exact fun h => h

theorem enter_keeps (st : SeqState) (s : State) : Keeps { psq := true, hbw := true } s (s.enter st) := by
  unfold State.enter
  refine Keeps.trans (t := _) ?_ ((watchEntered_keeps st _).mono (by decide))
  constructor <;> first | rfl | (intro _; rfl) | (intro h; exact Bool.noConfusion h) | exact fun h => h

theorem enterHeating_keeps (s : State) : Keeps { psq := true, hbw := true } s (s.enterHeating) := by
  unfold State.enterHeating
  refine Keeps.trans (t := _) ?_ (enter_keeps _ _)
  constructor <;> first | rfl | (intro _; rfl) | (intro h; exact Bool.noConfusion h) | exact fun h => h

theorem enterStandby_keeps (s : State) : Keeps { psq := true, hbw := true } s (s.enterStandby) := by
  unfold State.enterStandby
  refine Keeps.trans (t := _) ?_ (enter_keeps _ _)
  constructor <;> first | rfl | (intro _; rfl) | (intro h; exact Bool.noConfusion h) | exact fun h => h

theorem enterPowering_keeps (s : State) : Keeps { psq := true, hbw := true } s (s.enterPowering) := by
  unfold State.enterPowering
  refine (enter_keeps .powering s).trans ?_
  constructor <;> first | rfl | (intro _; rfl) | (intro h; exact Bool.noConfusion h) | exact fun h => h

theorem enterBooting_keeps (d : Nat) (s : State) : Keeps { psq := true, hbw := true, rpu := true, mem := true } s (s.enterBooting d) := by
  unfold State.enterBooting
  refine Keeps.trans (t := _) ?_ ((watchBooting_keeps _ _).mono (by decide))
  constructor <;> first | rfl | (intro _; rfl) | (intro h; exact Bool.noConfusion h) | exact fun h => h

theorem enterRestarting_keeps (s : State) : Keeps { psq := true, zc := true, hbw := true, exc := true, rpu := true } s (s.enterRestarting) := by
  unfold State.enterRestarting
  refine (((takeDown_keeps false s).mono (by decide)).trans
    ((enter_keeps .restarting _).mono (by decide))).trans ?_
  constructor <;> first | rfl | (intro _; rfl) | (intro h; exact Bool.noConfusion h) | exact fun h => h

theorem enterCycling_keeps (s : State) : Keeps { psq := true, zc := true, hbw := true, exc := true, rpu := true } s (s.enterCycling) := by
  unfold State.enterCycling
  refine (((takeDown_keeps true s).mono (by decide)).trans
    ((enter_keeps .cycling _).mono (by decide))).trans ?_
  constructor <;> first | rfl | (intro _; rfl) | (intro h; exact Bool.noConfusion h) | exact fun h => h

theorem enterHoldoff_keeps (r : HoldoffReason) (s : State) : Keeps { psq := true, zc := true, hbw := true, exc := true, rpu := true } s (s.enterHoldoff r) := by
  unfold State.enterHoldoff
  refine (((takeDown_keeps true s).mono (by decide)).trans ((enter_keeps .holdoff _).mono (by decide))).trans ?_
  constructor <;> first | rfl | (intro _; rfl) | (intro h; exact Bool.noConfusion h) | exact fun h => h

theorem enterShutdown_keeps (n : Nat) (s : State) : Keeps { psq := true, hbw := true } s (s.enterShutdown n) := by
  unfold State.enterShutdown
  refine (enter_keeps .shutdown s).trans ?_
  constructor <;> first | rfl | (intro _; rfl) | (intro h; exact Bool.noConfusion h) | exact fun h => h

theorem endShutdown_keeps (s : State) : Keeps { psq := true, zc := true, hbw := true, exc := true, rpu := true } s (s.endShutdown) := by
  unfold State.endShutdown; split
  · exact ((takeDown_keeps true s).mono (by decide)).trans ((enterStandby_keeps _).mono (by decide))
  · exact enterHoldoff_keeps _ s

theorem carryOut_keeps (a : Action) (s : State) : Keeps { psq := true, zc := true, hbw := true, exc := true, rpu := true } s (s.carryOut a) := by
  unfold State.carryOut
  split
  iterate 3
    · split
      · exact enterRestarting_keeps s
      · exact enterCycling_keeps s
      · exact enterHoldoff_keeps _ s
  · split
    · exact enterCycling_keeps s
    · exact enterCycling_keeps s
    · exact enterHoldoff_keeps _ s
  · split
    · exact Keeps.set_psq (.refl _ s) rfl _
    · exact enterCycling_keeps s
    · exact enterHoldoff_keeps _ s
  all_goals exact .refl _ s

theorem carryOutHeld_keeps (s : State) : Keeps { psq := true, zc := true, hbw := true, exc := true, rpu := true } s (s.carryOutHeld) := by
  unfold State.carryOutHeld; split
  · exact .refl _ s
  · refine Keeps.trans (t := _) ?_ (carryOut_keeps _ _)
    constructor <;> first | rfl | (intro _; rfl) | (intro h; exact Bool.noConfusion h) | exact fun h => h

theorem decided_keeps (c : Cause) (s : State) : Keeps { hbw := true, mem := true } s (s.decided c) :=
  (recordFailure_keeps _ s).trans ((watchOff_keeps _).mono (by decide))

theorem carryOutNow_keeps (a : Action) (s : State) : Keeps { psq := true, zc := true, hbw := true, exc := true, rpu := true } s (s.carryOutNow a) :=
  (carryOutHeld_keeps s).trans (carryOut_keeps a _)

theorem fail_keeps (c : Cause) (s : State) : Keeps { psq := true, zc := true, hbw := true, exc := true, rpu := true, mem := true } s (s.fail c) := by
  have h : Keeps { psq := true, zc := true, hbw := true, exc := true, rpu := true, mem := true } s (s.decided c) :=
    (decided_keeps c s).mono (by decide)
  unfold State.fail
  split
  · dsimp only
    split
    · exact Keeps.set_psq h rfl _
    · exact h.trans ((carryOutNow_keeps _ _).mono (by decide))
  · exact .refl _ s

theorem overheat_keeps (s : State) : Keeps { psq := true, zc := true, hbw := true, exc := true, rpu := true, mem := true } s (s.overheat) := by
  unfold State.overheat
  split
  · refine Keeps.trans (t := _) ?_ ((endShutdown_keeps _).mono (by decide))
    refine Keeps.set_psq (Keeps.trans (t := _) ?_ ((enter_keeps _ _).mono (by decide))) rfl _
    exact Keeps.set_psq ((recordFailure_keeps _ s).mono (by decide)) rfl _
  · exact .refl _ s

theorem toRunning_keeps (s : State) : Keeps { psq := true, hbw := true } s (s.toRunning) := by
  unfold State.toRunning
  split <;> first | exact enter_keeps _ s | exact .refl _ s

theorem disarmToRunning_keeps (s : State) : Keeps { psq := true, hbw := true } s (s.disarmToRunning) := by
  unfold State.disarmToRunning
  split <;> first | exact enter_keeps _ s | exact .refl _ s

theorem toWarned_keeps (s : State) : Keeps { psq := true, hbw := true } s (s.toWarned) := by
  unfold State.toWarned
  split <;> first | exact enter_keeps _ s | exact .refl _ s

theorem wake_keeps (s : State) : Keeps { psq := true, hbw := true } s (s.wake) := by
  unfold State.wake; split
  · exact enterHeating_keeps s
  · exact .refl _ s

theorem serviceRelease_keeps (s : State) : Keeps { psq := true, hbw := true, mem := true } s (s.serviceRelease) := by
  unfold State.serviceRelease; split
  · exact ((enterHeating_keeps s).mono (by decide)).trans ((serviceFloor_keeps _).mono (by decide))
  · exact .refl _ s

theorem pgChanged_keeps (l : Bool) (s : State) : Keeps { psq := true, zc := true, hbw := true, exc := true, rpu := true, mem := true } s (s.pgChanged l) := by
  have h : Keeps { psq := true, zc := true, hbw := true, exc := true, rpu := true, mem := true } s { s with psq := { s.psq with pgSeen := l } } := by
    constructor <;> first | rfl | (intro _; rfl) | (intro h; exact Bool.noConfusion h) | exact fun h => h
  unfold State.pgChanged
  dsimp only
  split
  · split
    · split
      · exact h
      · refine h.trans ?_
        constructor <;> first | rfl | (intro _; rfl) | (intro h; exact Bool.noConfusion h) | exact fun h => h
    · refine h.trans ?_
      constructor <;> first | rfl | (intro _; rfl) | (intro h; exact Bool.noConfusion h) | exact fun h => h
  all_goals first
    | exact h
    | (split
       · exact h
       · exact h.trans (fail_keeps _ _))

theorem pgTimeout_keeps (s : State) : Keeps { psq := true, zc := true, hbw := true, exc := true, rpu := true, mem := true } s (s.pgTimeout) := by
  unfold State.pgTimeout
  refine Keeps.trans (t := _) ?_ (fail_keeps _ _)
  constructor <;> first | rfl | (intro _; rfl) | (intro h; exact Bool.noConfusion h) | exact fun h => h

theorem pulseEnd_keeps (s : State) : Keeps { psq := true, zc := true, hbw := true, exc := true, rpu := true, mem := true } s (s.pulseEnd) := by
  unfold State.pulseEnd; split
  · exact (enterBooting_keeps _ s).mono (by decide)
  · refine Keeps.trans (t := _) ?_ (fail_keeps _ _)
    constructor <;> first | rfl | (intro _; rfl) | (intro h; exact Bool.noConfusion h) | exact fun h => h

theorem retryExpiry_keeps (s : State) : Keeps { psq := true, hbw := true } s (s.retryExpiry) :=
  guarded_keeps _ _ s (enterHeating_keeps s)

theorem psqPeriod_keeps (c : Bool) (s : State) : Keeps { psq := true, zc := true, hbw := true, exc := true, rpu := true, mem := true } s (s.psqPeriod c) := by
  unfold State.psqPeriod; split
  · exact overheat_keeps s
  · split <;> first
      | exact .refl _ s
      | (split
         · first | exact (enterPowering_keeps s).mono (by decide) | exact (enterHeating_keeps s).mono (by decide)
         · exact .refl _ s)

/-! ## KPS and IND -/

theorem setKey_keeps (p : Position) (k : Key) (s : State) : Keeps { kps := true } s (s.setKey p k) := by
  constructor <;> first | rfl | (intro _; rfl) | (intro h; exact Bool.noConfusion h) | exact fun h => h

theorem keyReport_keeps (n : ReportBody) (s : State) : Keeps { kps := true, rpu := true, mem := true } s (s.keyReport n) := by
  unfold State.keyReport
  refine ((createReport_keeps n s).mono (by decide)).trans ?_
  constructor <;> first | rfl | (intro _; rfl) | (intro h; exact Bool.noConfusion h) | exact fun h => h

theorem reportKey_keeps (k : ReportKind) (p : Position) (d : Nat) (s : State) : Keeps { kps := true, rpu := true, mem := true } s (s.reportKey k p d) :=
  keyReport_keeps _ s

theorem chordFromIdle_keeps (s : State) : Keeps { kps := true } s (s.chordFromIdle) := by
  unfold State.chordFromIdle; split <;> constructor <;> first | rfl | (intro _; rfl) | (intro h; exact Bool.noConfusion h) | exact fun h => h

theorem chordSetChanged_keeps (s : State) : Keeps { kps := true } s (s.chordSetChanged) := by
  unfold State.chordSetChanged
  split <;> first | exact .refl _ s | exact chordFromIdle_keeps s

theorem chordRelease_keeps (s : State) : Keeps { kps := true } s (s.chordRelease) := by
  unfold State.chordRelease; split <;> constructor <;> first | rfl | (intro _; rfl) | (intro h; exact Bool.noConfusion h) | exact fun h => h

theorem chordAtScan_keeps (s : State) : Keeps { kps := true } s (s.chordAtScan) := by
  unfold State.chordAtScan; split
  · exact chordFromIdle_keeps s
  · split <;> constructor <;> first | rfl | (intro _; rfl) | (intro h; exact Bool.noConfusion h) | exact fun h => h
  · exact chordRelease_keeps s

theorem chordTouched_keeps (p : Position) (s : State) : Keeps { kps := true } s (s.chordTouched p) := by
  unfold State.chordTouched; split
  · exact chordSetChanged_keeps s
  · exact .refl _ s

theorem maskKey_keeps (m : Mask) (p : Position) (s : State) : Keeps { kps := true, rpu := true, mem := true } s (s.maskKey m p) := by
  unfold State.maskKey
  exact (((setKey_keeps p _ s).mono (by decide)).trans (reportKey_keeps _ _ _ _)).trans
    ((chordTouched_keeps p _).mono (by decide))

theorem lampTestRequest_keeps (s : State) : Keeps { ind := true } s (s.lampTestRequest) := by
  constructor <;> first | rfl | (intro _; rfl) | (intro h; exact Bool.noConfusion h) | exact fun h => h

theorem localAction_keeps (p : Position) (s : State) : Keeps { psq := true, hbw := true, ind := true } s (s.localAction p) := by
  unfold State.localAction
  split
  · split
    · exact (wake_keeps s).mono (by decide)
    · exact (lampTestRequest_keeps s).mono (by decide)
    all_goals exact .refl _ s
  · exact .refl _ s

theorem press_keeps (d : Nat) (p : Position) (s : State) : Keeps { kps := true, ind := true, psq := true, hbw := true, rpu := true, mem := true } s (s.press d p) := by
  have h : ∀ k : Key, Keeps { kps := true, ind := true, psq := true, hbw := true, rpu := true, mem := true }
      s (s.setKey p k) := fun k => (setKey_keeps p k s).mono (by decide)
  unfold State.press
  refine Keeps.trans (t := _) ?_ ((localAction_keeps p _).mono (by decide))
  split
  · exact (h _).trans ((reportKey_keeps _ _ _ _).mono (by decide))
  · exact h _

theorem unmaskKey_keeps (d : Nat) (f : Bool) (p : Position) (s : State) : Keeps { kps := true, ind := true, psq := true, hbw := true, rpu := true, mem := true } s (s.unmaskKey d f p) := by
  unfold State.unmaskKey
  split
  · exact .refl _ s
  · have h : ∀ k : Key, Keeps { kps := true, ind := true, psq := true, hbw := true, rpu := true, mem := true }
        s ((s.setKey p k).reportKey .keyUnmasked p d) :=
      fun k => ((setKey_keeps p k s).mono (by decide)).trans ((reportKey_keeps _ _ _ _).mono (by decide))
    refine Keeps.trans (t := _) ?_ ((chordTouched_keeps p _).mono (by decide))
    split
    · exact (h _).trans (press_keeps _ _ _)
    · exact h _

theorem keyWentDown_keeps (p : Position) (s : State) : Keeps { kps := true, ind := true, psq := true, hbw := true, rpu := true, mem := true } s (s.keyWentDown p) := by
  have h : ∀ k : Key, Keeps { kps := true, ind := true, psq := true, hbw := true, rpu := true, mem := true }
      s (s.setKey p k) := fun k => (setKey_keeps p k s).mono (by decide)
  unfold State.keyWentDown
  dsimp only
  split
  · split
    · exact (h _).trans ((maskKey_keeps _ _ _).mono (by decide))
    · exact (h _).trans (press_keeps _ _ _)
  all_goals exact h _

theorem keyWentUp_keeps (p : Position) (s : State) : Keeps { kps := true, ind := true, psq := true, hbw := true, rpu := true, mem := true } s (s.keyWentUp p) := by
  have h : ∀ k : Key, Keeps { kps := true, ind := true, psq := true, hbw := true, rpu := true, mem := true }
      s (s.setKey p k) := fun k => (setKey_keeps p k s).mono (by decide)
  unfold State.keyWentUp
  dsimp only
  split
  · exact (h _).trans (unmaskKey_keeps _ _ _ _)
  · split
    · exact (h _).trans ((maskKey_keeps _ _ _).mono (by decide))
    · split
      · exact (h _).trans ((reportKey_keeps _ _ _ _).mono (by decide))
      · exact h _
  · exact h _

theorem repeatDelayExpiry_keeps (p : Position) (s : State) : Keeps { kps := true, rpu := true, mem := true } s (s.repeatDelayExpiry p) := by
  refine guarded_keeps _ _ s ?_
  exact ((setKey_keeps p _ s).mono (by decide)).trans (reportKey_keeps _ _ _ _)

theorem repeatIntervalExpiry_keeps (p : Position) (s : State) : Keeps { kps := true, rpu := true, mem := true } s (s.repeatIntervalExpiry p) := by
  refine guarded_keeps _ _ s ?_
  exact ((setKey_keeps p _ s).mono (by decide)).trans (reportKey_keeps _ _ _ _)

theorem stuckExpiry_keeps (p : Position) (s : State) : Keeps { kps := true, rpu := true, mem := true } s (s.stuckExpiry p) :=
  guarded_keeps _ _ s (maskKey_keeps _ _ s)

theorem quietExpiry_keeps (p : Position) (s : State) : Keeps { kps := true, ind := true, psq := true, hbw := true, rpu := true, mem := true } s (s.quietExpiry p) :=
  guarded_keeps _ _ s (unmaskKey_keeps _ _ _ s)

theorem sendOperator_keeps (s : State) : Keeps { kps := true, ind := true, psq := true, zc := true, hbw := true, exc := true, rpu := true, mem := true } s (s.sendOperator) := by
  unfold State.sendOperator
  split
  · exact Keeps.set_kps (.refl _ s) rfl _
  · exact (fail_keeps _ _).mono (by decide)

theorem operatorExpiry_keeps (p : Position) (s : State) : Keeps { kps := true, ind := true, psq := true, zc := true, hbw := true, exc := true, rpu := true, mem := true } s (s.operatorExpiry p) := by
  refine guarded_keeps _ _ s ?_
  exact ((setKey_keeps p _ s).mono (by decide)).trans (sendOperator_keeps _)

theorem operatorPart_keeps (part : OperatorPart) (p : Position) (s : State) : Keeps { kps := true, ind := true, psq := true, zc := true, hbw := true, exc := true, rpu := true, mem := true } s (s.operatorPart part p) := by
  cases part with
  | fire => exact operatorExpiry_keeps p s
  | delay =>
    unfold State.operatorPart State.operatorDelayed
    refine guarded_keeps _ _ s ?_
    exact Keeps.set_kps (.refl _ s) rfl _
  | arrive =>
    unfold State.operatorPart State.operatorArrives
    dsimp only
    split
    · exact Keeps.set_kps (.refl _ s) rfl _
    · exact Keeps.trans (t := _) (Keeps.set_kps (.refl _ s) rfl _) ((fail_keeps _ _).mono (by decide))

theorem chatterRelease_keeps (s : State) : Keeps { kps := true, ind := true, psq := true, hbw := true, rpu := true, mem := true } s (s.eachPosition fun p t => if (t.key p).mask = .chatter then t.unmaskKey 3 true p else t) := by
  refine eachPosition_keeps _ s fun p t => ?_
  split
  · exact unmaskKey_keeps _ _ _ t
  · exact .refl _ t

theorem chordFired_keeps (s : State) : Keeps { kps := true, ind := true, psq := true, zc := true, hbw := true, exc := true, rpu := true, mem := true } s (s.chordFired) := by
  unfold State.chordFired
  refine Keeps.trans (t := _) ?_ (eachPosition_keeps _ _ fun p t => operatorExpiry_keeps p t)
  refine Keeps.trans (t := _) ?_ ((serviceRelease_keeps _).mono (by decide))
  refine Keeps.trans (t := _) ?_ ((chatterRelease_keeps _).mono (by decide))
  refine Keeps.set_kps ?_ rfl _
  refine Keeps.trans (t := _) ?_ ((keyReport_keeps _ _).mono (by decide))
  exact Keeps.set_kps (.refl _ s) rfl _

theorem chordExpiry_keeps (s : State) : Keeps { kps := true, ind := true, psq := true, zc := true, hbw := true, exc := true, rpu := true, mem := true } s (s.chordExpiry) :=
  guarded_keeps _ _ s (chordFired_keeps s)

theorem windowExpiry_keeps (s : State) : Keeps { kps := true } s (s.windowExpiry) := by
  refine guarded_keeps _ _ s ?_
  constructor <;> first | rfl | (intro _; rfl) | (intro h; exact Bool.noConfusion h) | exact fun h => h

theorem keypadFollows_keeps (o : SeqState) (s : State) : Keeps { kps := true, ind := true, psq := true, zc := true, hbw := true, exc := true, rpu := true, mem := true } s (s.keypadFollows o) := by
  have h : Keeps { kps := true, ind := true, psq := true, zc := true, hbw := true, exc := true, rpu := true, mem := true }
      s (if s.psq.state.parked && decide (s.psq.state ≠ o) then s.eachPosition State.quietExpiry else s) := by
    split
    · exact eachPosition_keeps _ s fun p t => (quietExpiry_keeps p t).mono (by decide)
    · exact .refl _ s
  unfold State.keypadFollows
  revert h
  generalize (if s.psq.state.parked && decide (s.psq.state ≠ o) then s.eachPosition State.quietExpiry else s) = u
  intro h
  dsimp only
  split
  · exact h.each State.operatorExpiry (fun p t => operatorExpiry_keeps p t) (by decide)
  · exact h

theorem storeRaw_keeps (raw : BitVec 48) (s : State) : Keeps { kps := true } s (s.storeRaw raw) :=
  Keeps.set_kps (.refl _ s) rfl _

theorem scanPosition_keeps (h : Position → Bool) (p : Position) (s : State) : Keeps { kps := true, ind := true, psq := true, hbw := true, rpu := true, mem := true } s (s.scanPosition h p) := by
  unfold State.scanPosition
  split
  · have h : ∀ k : Key, Keeps { kps := true, ind := true, psq := true, hbw := true, rpu := true, mem := true }
        s (s.setKey p k) := fun k => (setKey_keeps p k s).mono (by decide)
    dsimp only
    split
    · split
      · exact (h _).trans (keyWentDown_keeps _ _)
      · exact (h _).trans (keyWentUp_keeps _ _)
    · exact h _
  · exact .refl _ s

theorem chooseMode_keeps (s : State) : Keeps { kps := true } s (s.chooseMode) := by
  constructor <;> first | rfl | (intro _; rfl) | (intro h; exact Bool.noConfusion h) | exact fun h => h

theorem activeScan_keeps (raw : BitVec 48) (s : State) : Keeps { kps := true, ind := true, psq := true, hbw := true, rpu := true, mem := true } s (s.activeScan raw) := by
  have h1 := ((storeRaw_keeps raw s).mono (b := { kps := true, ind := true, psq := true, hbw := true, rpu := true, mem := true })
    (by decide)).each (State.scanPosition (s.storeRaw raw).ghost) (fun p t => scanPosition_keeps _ p t) (by decide)
  have h : ∀ u : State, Keeps { kps := true, ind := true, psq := true, hbw := true, rpu := true, mem := true } s u →
      Keeps { kps := true, ind := true, psq := true, hbw := true, rpu := true, mem := true } s
        (State.chooseMode (if u.chordAtScan.anyDown then
          { u.chordAtScan with kps := { u.chordAtScan.kps with activity := some s.clock } } else u.chordAtScan)) := by
    intro u hu
    have hc := hu.trans ((chordAtScan_keeps u).mono (by decide))
    split
    · exact (Keeps.set_kps hc rfl _).trans ((chooseMode_keeps _).mono (by decide))
    · exact hc.trans ((chooseMode_keeps _).mono (by decide))
  unfold State.activeScan
  exact h _ h1

theorem slowScan_keeps (raw : BitVec 48) (s : State) : Keeps { kps := true } s (s.slowScan raw) := by
  unfold State.slowScan; split <;> constructor <;> first | rfl | (intro _; rfl) | (intro h; exact Bool.noConfusion h) | exact fun h => h

theorem replaceEntries_keeps (n : Position → Bool) (m : KeyMap) (s : State) : Keeps { kps := true, sst := true } s (s.replaceEntries n m) := by
  have h : ∀ (e : KeyMap) (k : Vector Key 48), Keeps { kps := true, sst := true } s
      { s with sst := { s.sst with keymap := e }, kps := { s.kps with keys := k } } :=
    fun e k => Keeps.set_sst (t := { s with kps := { s.kps with keys := k } }) (Keeps.set_kps (.refl _ s) rfl _) rfl _
  have g : ∀ (c d : Bool) (u : State), Keeps { kps := true, sst := true } s u →
      Keeps { kps := true, sst := true } s (if c then u.chordRelease else if d then u.chordSetChanged else u) := by
    intro c d u hu
    cases c
    · cases d
      · exact hu
      · exact hu.trans ((chordSetChanged_keeps u).mono (by decide))
    · exact hu.trans ((chordRelease_keeps u).mono (by decide))
  unfold State.replaceEntries
  generalize (Vector.ofFn fun p => if n p then m[p] else s.entry p : KeyMap) = e
  generalize (Vector.ofFn fun p => if n p then (s.key p).replaced else s.key p : Vector Key 48) = k
  have k := g (decide (s.kps.chord = .fired)) ((List.finRange 48).any (fun p => n p && (s.member p || State.member
    { s with sst := { s.sst with keymap := e }, kps := { s.kps with keys := k } } p))) _ (h e k)
  simp only [decide_eq_true_eq] at k
  exact k

theorem frameStart_keeps (s : State) : Keeps { ind := true } s (s.frameStart) :=
  Keeps.set_ind (.refl _ s) rfl _

theorem slotStart_keeps (s : State) : Keeps { ind := true } s (s.slotStart) := by
  constructor <;> first | rfl | (intro _; rfl) | (intro h; exact Bool.noConfusion h) | exact fun h => h

/-! ## The control period -/

theorem measureAll_keeps (ms : Vector Measurement 6) (s : State) : Keeps { sfe := true, rpu := true, mem := true } s (s.measureAll ms) := by
  unfold State.measureAll
  refine Keeps.trans (t := _) ?_ ((createReports_keeps _ _).mono (by decide))
  constructor <;> first | rfl | (intro _; rfl) | (intro h; exact Bool.noConfusion h) | exact fun h => h

theorem zonePeriod_keeps (s : State) : Keeps { zc := true, rpu := true, mem := true } s (s.zonePeriod) := by
  unfold State.zonePeriod
  refine Keeps.trans (t := _) ?_ ((createReports_keeps _ _).mono (by decide))
  constructor <;> first | rfl | (intro _; rfl) | (intro h; exact Bool.noConfusion h) | exact fun h => h

theorem overheatDwell_keeps (s : State) : Keeps { zc := true } s (s.overheatDwell) := by
  constructor <;> first | rfl | (intro _; rfl) | (intro h; exact Bool.noConfusion h) | exact fun h => h

theorem takeGrants_keeps (s : State) : Keeps { zc := true, fc := true } s (s.takeGrants) := by
  constructor <;> first | rfl | (intro _; rfl) | (intro h; exact Bool.noConfusion h) | exact fun h => h

theorem allocation_keeps (s : State) : Keeps { la := true, zc := true, fc := true, rpu := true, mem := true } s (s.allocation) := by
  unfold State.allocation
  refine Keeps.trans (t := _) ?_ (((takeGrants_keeps _).mono (by decide)).trans ((createReports_keeps _ _).mono (by decide)))
  constructor <;> first | rfl | (intro _; rfl) | (intro h; exact Bool.noConfusion h) | exact fun h => h

theorem heaterOff_keeps (n : Fin 4) (s : State) : Keeps { zc := true } s (s.heaterOff n) := by
  constructor <;> first | rfl | (intro _; rfl) | (intro h; exact Bool.noConfusion h) | exact fun h => h

theorem setFan_keeps (n : Fin 2) (f : Fan) (s : State) : Keeps { fc := true } s (s.setFan n f) := by
  constructor <;> first | rfl | (intro _; rfl) | (intro h; exact Bool.noConfusion h) | exact fun h => h

theorem fanPeriod_keeps (s : State) : Keeps { fc := true, rpu := true, mem := true } s (s.fanPeriod) := by
  unfold State.fanPeriod
  refine Keeps.set_fc (Keeps.trans (t := _) ?_ ((createReports_keeps _ _).mono (by decide))) rfl _
  exact Keeps.set_fc (.refl _ s) rfl _

theorem controlPeriod_keeps (ms : Vector Measurement 6) (t : PsqTurn) (s : State) : Keeps { sfe := true, zc := true, la := true, fc := true, psq := true, hbw := true, exc := true, rpu := true, mem := true, part := true } s (s.controlPeriod ms t) := by
  have h0 : Keeps { sfe := true, zc := true, la := true, fc := true, psq := true, hbw := true, exc := true, rpu := true, mem := true, part := true } s { s with period := some s.clock } := by
    constructor <;> first | rfl | (intro _; rfl) | (intro h; exact Bool.noConfusion h) | exact fun h => h
  have h2 := ((h0.trans ((measureAll_keeps ms _).mono (by decide))).trans ((zonePeriod_keeps _).mono (by decide))).trans
    ((overheatDwell_keeps _).mono (by decide))
  have hc : ∀ (c : Bool) (u : State), Keeps { sfe := true, zc := true, la := true, fc := true, psq := true, hbw := true, exc := true, rpu := true, mem := true, part := true } u
      (u.psqPeriod c).ageHistory :=
    fun c u => ((psqPeriod_keeps c u).mono (by decide)).trans ((ageHistory_keeps _).mono (by decide))
  unfold State.controlPeriod
  cases t
  · exact (h2.trans (hc _ _)).trans (((fanPeriod_keeps _).mono (by decide)).trans ((allocation_keeps _).mono (by decide)))
  · exact (h2.trans (((fanPeriod_keeps _).mono (by decide)).trans ((allocation_keeps _).mono (by decide)))).trans (hc _ _)

/-! ## What the host is shown -/

theorem anchorStep_keeps (old u : State) (w : Nat) (t : State) : Keeps { mem := true } t
    (if old.anchorValue w = u.anchorValue w then t else t.setWord w (u.anchorValue w)) := by
  split
  · exact .refl _ t
  · exact setWord_keeps _ _ t

theorem writeAnchor_keeps (old : State) (s : State) : Keeps { mem := true } s (State.writeAnchor old s) := by
  have : ∀ (l : List Nat) (t : State), Keeps { mem := true } t
      (l.foldl (fun t w => if old.anchorValue w = s.anchorValue w then t else t.setWord w (s.anchorValue w)) t) := by
    intro l
    induction l with
    | nil => exact fun t => .refl _ t
    | cons w l ih => exact fun t => (anchorStep_keeps old s w t).trans (ih _)
  exact this _ s

theorem writeSection_keeps (c : Section) (n : Word) (s : State) : Keeps { mem := true } s (s.writeSection c n) :=
  setWords_keeps _ _ s

theorem rewriteIf_keeps (b : Bool) (c : Section) (s : State) : Keeps { mem := true } s (s.rewriteIf b c) := by
  unfold State.rewriteIf; split
  · exact setWords_keeps _ _ s
  · exact .refl _ s

theorem publish_keeps (r : Rewrites) (old : State) (s : State) : Keeps { mem := true } s (State.publish r old s) := by
  unfold State.publish
  exact ((writeAnchor_keeps old s).trans (rewriteIf_keeps _ _ _)).trans
    ((rewriteIf_keeps _ _ _).trans (rewriteIf_keeps _ _ _))

/-- A step of its own touches what its effect touches, KPS's reactions to PSQ's state, and the window. -/
theorem act_keeps {b : Blocks} (r : Rewrites) (f : State → State) (s : State) (h : Keeps b s (f s)) :
    Keeps (b.or { kps := true, ind := true, psq := true, zc := true, hbw := true, exc := true, rpu := true, mem := true }) s (State.act r f s) := by
  have hb : ∀ a c : Blocks, a.or (a.or c) = a.or c := by
    intro a c; cases a; cases c; simp [Blocks.or]
  have hc : ∀ a c : Blocks, a.or c = c → a.or (b.or c) = b.or c := by
    intro a c e
    cases a; cases c; cases b
    simp only [Blocks.or, Blocks.mk.injEq] at e ⊢
    revert e
    simp only [and_imp]
    intros
    refine ⟨?_, ?_, ?_, ?_, ?_, ?_, ?_, ?_, ?_, ?_, ?_, ?_, ?_⟩ <;> simp_all
  unfold State.act
  exact ((h.mono (hb _ _)).trans ((keypadFollows_keeps _ _).mono (hc _ _ (by decide)))).trans
    ((publish_keeps _ _ _).mono (hc _ _ (by decide)))

/-! ## SST -/

theorem placeSetting_keeps (n : Nat) (v : Int) (s : State) : Keeps { sst := true } s (s.placeSetting n v) := by
  constructor <;> first | rfl | (intro _; rfl) | (intro h; exact Bool.noConfusion h) | exact fun h => h

theorem settingWritten_keeps (n : Nat) (s : State) : Keeps { kps := true, ind := true, psq := true, zc := true, hbw := true, exc := true, rpu := true, mem := true } s (s.settingWritten n) := by
  unfold State.settingWritten
  split
  · exact (retryExpiry_keeps s).mono (by decide)
  · exact eachPosition_keeps _ s fun p t => (repeatDelayExpiry_keeps p t).mono (by decide)
  · exact eachPosition_keeps _ s fun p t => (repeatIntervalExpiry_keeps p t).mono (by decide)
  · exact eachPosition_keeps _ s fun p t => (stuckExpiry_keeps p t).mono (by decide)
  · exact eachPosition_keeps _ s fun p t => (quietExpiry_keeps p t).mono (by decide)
  · exact (chordExpiry_keeps s).each State.operatorExpiry (fun p t => operatorExpiry_keeps p t) (by decide)
  · exact (windowExpiry_keeps s).mono (by decide)
  · exact .refl _ s

theorem takeImage_keeps (r : ReadBack) (s : State) : Keeps { sst := true, rpu := true, mem := true } s (s.takeImage r) := by
  unfold State.takeImage
  split
  · exact Keeps.set_sst (.refl _ s) rfl _
  · refine Keeps.trans (t := _) ?_ ((createReport_keeps _ _).mono (by decide))
    constructor <;> first | rfl | (intro _; rfl) | (intro h; exact Bool.noConfusion h) | exact fun h => h

theorem startSequencer_keeps (s : State) : Keeps { psq := true, hbw := true } s (s.startSequencer) := by
  unfold State.startSequencer; split
  · exact enterHeating_keeps s
  · exact enterStandby_keeps s

theorem startHistory_keeps (s : State) : Keeps { hbw := true, mem := true } s (s.startHistory) := by
  unfold State.startHistory; split
  · exact pinResetHistory_keeps s
  · exact .refl _ s

theorem startTimers_keeps (s : State) : Keeps { exc := true, kps := true, ind := true, part := true } s (s.startTimers) := by
  constructor <;> first | rfl | (intro _; rfl) | (intro h; exact Bool.noConfusion h) | exact fun h => h

theorem startUp_keeps (r : ReadBack) (s : State) : Keeps { sst := true, rpu := true, mem := true, psq := true, hbw := true, exc := true, kps := true, ind := true, part := true } s (s.startUp r) := by
  unfold State.startUp
  exact ((((takeImage_keeps r s).mono (by decide)).trans ((setWord_keeps _ _ _).mono (by decide))).trans
    ((startHistory_keeps _).mono (by decide))).trans
    ((((startSequencer_keeps _).mono (by decide)).trans ((startTimers_keeps _).mono (by decide))).trans
      ((frameStart_keeps _).mono (by decide)))

theorem beginStore_keeps (s : State) : Keeps { sst := true } s (s.beginStore) := by
  constructor <;> first | rfl | (intro _; rfl) | (intro h; exact Bool.noConfusion h) | exact fun h => h

theorem endStore_keeps (r : OrderResult) (s : State) : Keeps { sst := true, exc := true } s (s.endStore r) := by
  constructor <;> first | rfl | (intro _; rfl) | (intro h; exact Bool.noConfusion h) | exact fun h => h

/-! ## EXC -/

theorem attachDone_keeps (l : Layout) (s : State) : Keeps { exc := true, rpu := true, mem := true } s (s.attachDone l) := by
  unfold State.attachDone
  refine Keeps.trans (t := _) ?_ ((drain_keeps _).mono (by decide))
  constructor <;> first | rfl | (intro _; rfl) | (intro h; exact Bool.noConfusion h) | exact fun h => h

theorem attachFailed_keeps (r : AttachResult) (s : State) : Keeps { exc := true, rpu := true } s (s.attachFailed r) := by
  unfold State.attachFailed
  refine Keeps.trans (t := _) ?_ ((detach_keeps _ _).trans ((raise_keeps _ _).mono (by decide)))
  constructor <;> first | rfl | (intro _; rfl) | (intro h; exact Bool.noConfusion h) | exact fun h => h

theorem attachTaken_keeps (s : State) : Keeps { exc := true, rpu := true, mem := true } s (s.attachTaken) := by
  unfold State.attachTaken
  refine Keeps.trans (t := { s with exc := { s.exc with attachCount := s.exc.attachCount + 1 } }) ?_ ?_
  · constructor <;> first | rfl | (intro _; rfl) | (intro h; exact Bool.noConfusion h) | exact fun h => h
  · dsimp only
    split
    · exact attachDone_keeps _ _
    · exact (attachFailed_keeps _ _).mono (by decide)

theorem attachCommit_keeps (s : State) : Keeps { exc := true, rpu := true, mem := true } s (s.attachCommit) := by
  unfold State.attachCommit; split
  · exact .refl _ s
  · exact attachTaken_keeps s

theorem detachCommit_keeps (s : State) : Keeps { exc := true, rpu := true } s (s.detachCommit) := by
  unfold State.detachCommit; split
  · exact detach_keeps _ s
  · exact .refl _ s

theorem faultDetach_keeps (s : State) : Keeps { exc := true, rpu := true } s (s.faultDetach) := by
  unfold State.faultDetach
  exact (detach_keeps _ s).trans ((raise_keeps _ _).mono (by decide))

theorem orderIndexCommit_keeps (s : State) : Keeps { exc := true, rpu := true } s (s.orderIndexCommit) := by
  unfold State.orderIndexCommit
  split
  · split
    · exact faultDetach_keeps s
    · exact .refl _ s
  · exact .refl _ s

theorem reportIndexCommit_keeps (s : State) : Keeps { exc := true, rpu := true, mem := true } s (s.reportIndexCommit) := by
  unfold State.reportIndexCommit
  split
  · split
    · exact (faultDetach_keeps s).mono (by decide)
    · exact (drain_keeps s).mono (by decide)
  · exact .refl _ s

theorem heartbeatActs_keeps (s : State) : Keeps { psq := true, hbw := true } s (s.heartbeatActs) := by
  unfold State.heartbeatActs
  split
  · refine Keeps.trans (t := _) ?_ (((watchOn_keeps _).mono (by decide)).trans (toRunning_keeps _))
    constructor <;> first | rfl | (intro _; rfl) | (intro h; exact Bool.noConfusion h) | exact fun h => h
  · exact (watchOn_keeps s).mono (by decide)
  · exact ((watchOn_keeps s).mono (by decide)).trans (toRunning_keeps _)
  all_goals exact .refl _ s

theorem heartbeatCommit_keeps (v : Word) (s : State) : Keeps { psq := true, hbw := true } s (s.heartbeatCommit v) := by
  unfold State.heartbeatCommit; split
  · exact .refl _ s
  · refine Keeps.trans (t := _) ?_ (heartbeatActs_keeps _)
    constructor <;> first | rfl | (intro _; rfl) | (intro h; exact Bool.noConfusion h) | exact fun h => h

theorem commitActs_keeps (w : Nat) (v : Word) (s : State) : Keeps { psq := true, hbw := true, exc := true, rpu := true, mem := true } s (s.commitActs w v) := by
  unfold State.commitActs
  split
  · split
    · exact (attachCommit_keeps s).mono (by decide)
    · split
      · exact (detachCommit_keeps s).mono (by decide)
      · exact .refl _ s
  · exact (orderIndexCommit_keeps s).mono (by decide)
  · exact (reportIndexCommit_keeps s).mono (by decide)
  · exact (heartbeatCommit_keeps v s).mono (by decide)
  · exact .refl _ s

theorem commitWord_keeps (w : Nat) (v : Word) (s : State) : Keeps { psq := true, hbw := true, exc := true, rpu := true, mem := true } s (s.commitWord w v) := by
  unfold State.commitWord
  refine Keeps.trans (t := _) ?_ (((setWord_keeps w v _).mono (by decide)).trans (commitActs_keeps w v _))
  constructor <;> first | rfl | (intro _; rfl) | (intro h; exact Bool.noConfusion h) | exact fun h => h

theorem lowWrite_keeps (w : WordAddr) (h : Half) (s : State) : Keeps { exc := true } s (s.lowWrite w h) := by
  unfold State.lowWrite; split <;> constructor <;> first | rfl | (intro _; rfl) | (intro h; exact Bool.noConfusion h) | exact fun h => h

theorem highWrite_keeps (w : WordAddr) (h : Half) (s : State) : Keeps { psq := true, hbw := true, exc := true, rpu := true, mem := true } s (s.highWrite w h) := by
  unfold State.highWrite; split
  · exact commitWord_keeps _ _ s
  · exact .refl _ s

theorem lowRead_keeps (w : WordAddr) (s : State) : Keeps { exc := true } s (s.lowRead w) := by
  constructor <;> first | rfl | (intro _; rfl) | (intro h; exact Bool.noConfusion h) | exact fun h => h

theorem highRead_keeps (w : WordAddr) (s : State) : Keeps { exc := true } s (s.highRead w) := by
  unfold State.highRead
  split
  · constructor <;> first | rfl | (intro _; rfl) | (intro h; exact Bool.noConfusion h) | exact fun h => h
  · split <;> constructor <;> first | rfl | (intro _; rfl) | (intro h; exact Bool.noConfusion h) | exact fun h => h

theorem noticeWrite_keeps (v : Half) (s : State) : Keeps { rpu := true } s (s.noticeWrite v) := setPending_keeps _ s

theorem enableWrite_keeps (v : Half) (s : State) : Keeps { rpu := true, exc := true } s (s.enableWrite v) :=
  setEnable_keeps _ s

/-! ## The orders -/

theorem armed_keeps (src : ArmSource) (w g : Nat) (s : State) : Keeps { psq := true, hbw := true } s (s.armed src w g) := by
  unfold State.armed
  refine Keeps.trans (t := _) ?_ (((watchOn_keeps _).mono (by decide)).trans (toRunning_keeps _))
  constructor <;> first | rfl | (intro _; rfl) | (intro h; exact Bool.noConfusion h) | exact fun h => h

theorem orderNoOp_keeps (s : State) : Keeps { kps := true, ind := true, psq := true, zc := true, fc := true, hbw := true, exc := true, rpu := true, mem := true, sst := true } s
    (orderNoOp s).1 := .refl _ s

theorem orderReadSetting_keeps (r : OrderRecord) (s : State) : Keeps { kps := true, ind := true, psq := true, zc := true, fc := true, hbw := true, exc := true, rpu := true, mem := true, sst := true } s
    (orderReadSetting r s).1 := by
  unfold orderReadSetting; split <;> exact .refl _ s

theorem orderWriteSetting_keeps (r : OrderRecord) (s : State) : Keeps { kps := true, ind := true, psq := true, zc := true, fc := true, hbw := true, exc := true, rpu := true, mem := true, sst := true } s
    (orderWriteSetting r s).1 := by
  unfold orderWriteSetting; split
  · exact .refl _ s
  · exact ((placeSetting_keeps _ _ s).mono (by decide)).trans ((settingWritten_keeps _ _).mono (by decide))

theorem orderStoreSettings_keeps (s : State) : Keeps { kps := true, ind := true, psq := true, zc := true, fc := true, hbw := true, exc := true, rpu := true, mem := true, sst := true } s
    (orderStoreSettings s).1 := (beginStore_keeps s).mono (by decide)

theorem orderRestoreDefaults_keeps (s : State) : Keeps { kps := true, ind := true, psq := true, zc := true, fc := true, hbw := true, exc := true, rpu := true, mem := true, sst := true } s
    (orderRestoreDefaults s).1 := by
  have h1 : Keeps { kps := true, ind := true, psq := true, zc := true, fc := true, hbw := true, exc := true, rpu := true, mem := true, sst := true } s { s with sst := { s.sst with table := defaultTable } } := Keeps.set_sst (.refl _ s) rfl _
  have h2 := h1.trans ((replaceEntries_keeps (fun _ => true) defaultKeyMap _).mono (by decide))
  have h3 := fun l : List Nat => h2.fold (fun s n => s.settingWritten n) (fun s n => settingWritten_keeps n s) (by decide) l
  unfold orderRestoreDefaults
  dsimp only
  generalize immediateSettings = l
  exact h3 l

theorem orderSnapshot_keeps (r : OrderRecord) (s : State) : Keeps { kps := true, ind := true, psq := true, zc := true, fc := true, hbw := true, exc := true, rpu := true, mem := true, sst := true } s
    (orderSnapshot r s).1 := by
  unfold orderSnapshot; split
  · exact .refl _ s
  · exact (setWords_keeps _ _ s).mono (by decide)

theorem orderArmWatch_keeps (r : OrderRecord) (s : State) : Keeps { kps := true, ind := true, psq := true, zc := true, fc := true, hbw := true, exc := true, rpu := true, mem := true, sst := true } s
    (orderArmWatch r s).1 := by
  unfold orderArmWatch
  split
  · exact .refl _ s
  · split
    · exact .refl _ s
    · split <;> exact (armed_keeps _ _ _ s).mono (by decide)

theorem orderDisarmWatch_keeps (s : State) : Keeps { kps := true, ind := true, psq := true, zc := true, fc := true, hbw := true, exc := true, rpu := true, mem := true, sst := true } s
    (orderDisarmWatch s).1 := by
  unfold orderDisarmWatch
  split
  · exact .refl _ s
  · split
    · exact .refl _ s
    · refine Keeps.trans (t := _) ?_ ((disarmToRunning_keeps _).mono (by decide))
      constructor <;> first | rfl | (intro _; rfl) | (intro h; exact Bool.noConfusion h) | exact fun h => h

theorem orderRequestRestart_keeps (r : OrderRecord) (s : State) : Keeps { kps := true, ind := true, psq := true, zc := true, fc := true, hbw := true, exc := true, rpu := true, mem := true, sst := true } s
    (orderRequestRestart r s).1 := by
  unfold orderRequestRestart
  split
  · exact .refl _ s
  · split
    · exact .refl _ s
    · exact (fail_keeps _ s).mono (by decide)

theorem orderRequestStandby_keeps (r : OrderRecord) (s : State) : Keeps { kps := true, ind := true, psq := true, zc := true, fc := true, hbw := true, exc := true, rpu := true, mem := true, sst := true } s
    (orderRequestStandby r s).1 := by
  unfold orderRequestStandby; split
  · exact .refl _ s
  · exact (enterShutdown_keeps _ s).mono (by decide)

theorem orderClearHistory_keeps (s : State) : Keeps { kps := true, ind := true, psq := true, zc := true, fc := true, hbw := true, exc := true, rpu := true, mem := true, sst := true } s
    (orderClearHistory s).1 := (setHistory_keeps _ s).mono (by decide)

theorem orderLoadKeymap_keeps (r : OrderRecord) (s : State) : Keeps { kps := true, ind := true, psq := true, zc := true, fc := true, hbw := true, exc := true, rpu := true, mem := true, sst := true } s
    (orderLoadKeymap r s).1 := by
  unfold orderLoadKeymap
  split
  · exact .refl _ s
  · split
    · exact (replaceEntries_keeps _ _ s).mono (by decide)
    · exact .refl _ s

theorem orderUnmaskKey_keeps (r : OrderRecord) (s : State) : Keeps { kps := true, ind := true, psq := true, zc := true, fc := true, hbw := true, exc := true, rpu := true, mem := true, sst := true } s
    (orderUnmaskKey r s).1 := by
  unfold orderUnmaskKey; split
  · exact .refl _ s
  · exact Keeps.fold (a := { kps := true, ind := true, psq := true, zc := true, fc := true, hbw := true, exc := true, rpu := true, mem := true, sst := true }) (.refl _ s)
      (fun s p => if (s.entry p).used then s.unmaskKey 2 true p else s)
      (fun s p => by
        split
        · exact (unmaskKey_keeps 2 true p s).mono (by decide)
        · exact .refl _ s)
      (by decide) _

theorem orderResetFilter_keeps (s : State) : Keeps { kps := true, ind := true, psq := true, zc := true, fc := true, hbw := true, exc := true, rpu := true, mem := true, sst := true } s
    (orderResetFilter s).1 := by
  constructor <;> first | rfl | (intro _; rfl) | (intro h; exact Bool.noConfusion h) | exact fun h => h

theorem perform_keeps (k : OrderKind) (r : OrderRecord) (s : State) : Keeps { kps := true, ind := true, psq := true, zc := true, fc := true, hbw := true, exc := true, rpu := true, mem := true, sst := true } s
    (s.perform k r).1 := by
  cases k
  · exact orderNoOp_keeps s
  · exact orderReadSetting_keeps r s
  · exact orderWriteSetting_keeps r s
  · exact orderStoreSettings_keeps s
  · exact orderRestoreDefaults_keeps s
  · exact orderSnapshot_keeps r s
  · exact orderArmWatch_keeps r s
  · exact orderDisarmWatch_keeps s
  · exact orderRequestRestart_keeps r s
  · exact orderRequestStandby_keeps r s
  · exact orderClearHistory_keeps s
  · exact orderLoadKeymap_keeps r s
  · exact orderUnmaskKey_keeps r s
  · exact orderResetFilter_keeps s

theorem examine_keeps (r : OrderRecord) (s : State) : Keeps { kps := true, ind := true, psq := true, zc := true, fc := true, hbw := true, exc := true, rpu := true, mem := true, sst := true } s
    (s.examine r).1 := by
  unfold State.examine
  split
  · exact .refl _ s
  · split
    · exact .refl _ s
    · split
      · exact perform_keeps _ r s
      · exact .refl _ s

theorem takeOrder_keeps (s : State) : Keeps { kps := true, ind := true, psq := true, zc := true, fc := true, hbw := true, exc := true, rpu := true, mem := true, sst := true } s (s.takeOrder) := by
  have h1 : Keeps { kps := true, ind := true, psq := true, zc := true, fc := true, hbw := true, exc := true, rpu := true, mem := true, sst := true } s
      { s with exc := { s.exc with inHand := some s.taken, lastOrder := s.taken.record.code } } :=
    Keeps.set_exc (.refl _ s) rfl _
  exact Keeps.set_exc (h1.trans (examine_keeps s.taken.record _)) rfl _

theorem writeOutcome_keeps (h : OrderInHand) (r : OrderResult) (s : State) : Keeps { exc := true, rpu := true, mem := true } s (s.writeOutcome h r) := by
  have h1 := (setWords_keeps (h.entry + 6) [r.value, r.detail] s).trans
    (setWord_keeps h.entry (h.record.answer r.outcome) (s.setWords (h.entry + 6) [r.value, r.detail]))
  exact (Keeps.set_exc (h1.mono (b := { exc := true, rpu := true, mem := true }) (by decide)) rfl _).trans
    ((raiseAttached_keeps noticeDone _).mono (by decide))

theorem startDelay_keeps (s : State) : Keeps { psq := true, zc := true, hbw := true, exc := true, rpu := true } s (s.startDelay) := by
  unfold State.startDelay
  split
  · split
    · exact endShutdown_keeps s
    · constructor <;> first | rfl | (intro _; rfl) | (intro h; exact Bool.noConfusion h) | exact fun h => h
  all_goals exact .refl _ s

theorem completeOrder_keeps (s : State) : Keeps { kps := true, ind := true, psq := true, zc := true, fc := true, hbw := true, exc := true, rpu := true, mem := true, sst := true } s (s.completeOrder) := by
  have g : ∀ u : State, Keeps { kps := true, ind := true, psq := true, zc := true, fc := true, hbw := true, exc := true, rpu := true, mem := true, sst := true } s u →
      Keeps { kps := true, ind := true, psq := true, zc := true, fc := true, hbw := true, exc := true, rpu := true, mem := true, sst := true } s
        { u.carryOutHeld.startDelay with exc := { u.carryOutHeld.startDelay.exc with inHand := none } } := fun u hu =>
    Keeps.set_exc ((hu.trans ((carryOutHeld_keeps u).mono (by decide))).trans
      ((startDelay_keeps u.carryOutHeld).mono (by decide))) rfl _
  unfold State.completeOrder
  split
  · exact .refl _ s
  · split
    · exact .refl _ s
    · rename_i h _ _ r _
      refine g (if h.discard then s else s.writeOutcome h r) ?_
      split
      · exact .refl _ s
      · exact (writeOutcome_keeps h r s).mono (by decide)

theorem actOrder_keeps (f : State → State) (s : State)
    (h : Keeps { kps := true, ind := true, psq := true, zc := true, fc := true, hbw := true, exc := true, rpu := true, mem := true, sst := true } s (f s)) :
    Keeps { kps := true, ind := true, psq := true, zc := true, fc := true, hbw := true, exc := true, rpu := true, mem := true, sst := true } s (State.act {} f s) :=
  (act_keeps {} f s h).mono (by decide)

theorem intakeRun_keeps (n : Nat) (s : State) : Keeps { kps := true, ind := true, psq := true, zc := true, fc := true, hbw := true, exc := true, rpu := true, mem := true, sst := true } s (s.intakeRun n) := by
  induction n generalizing s with
  | zero => exact .refl _ s
  | succ n ih =>
    unfold State.intakeRun
    split
    · dsimp only
      split
      · exact (actOrder_keeps _ _ (takeOrder_keeps _)).trans ((actOrder_keeps _ _ (completeOrder_keeps _)).trans (ih _))
      · exact actOrder_keeps _ _ (takeOrder_keeps _)
    · exact .refl _ s

theorem intake_keeps (s : State) : Keeps { kps := true, ind := true, psq := true, zc := true, fc := true, hbw := true, exc := true, rpu := true, mem := true, sst := true } s (s.intake) :=
  intakeRun_keeps _ s

theorem trigger_keeps (reach : IntakeReach) (s : State) : Keeps { kps := true, ind := true, psq := true, zc := true, fc := true, hbw := true, exc := true, rpu := true, mem := true, sst := true } s (s.trigger reach) := by
  cases reach
  · exact intake_keeps s
  · unfold State.trigger; dsimp only; split
    · exact actOrder_keeps _ _ (takeOrder_keeps _)
    · exact .refl _ s

theorem completeAndTrigger_keeps (next : IntakeReach) (s : State) : Keeps { kps := true, ind := true, psq := true, zc := true, fc := true, hbw := true, exc := true, rpu := true, mem := true, sst := true } s (s.completeAndTrigger next) := by
  unfold State.completeAndTrigger; split
  · exact (actOrder_keeps _ _ (completeOrder_keeps _)).trans (trigger_keeps next _)
  · exact .refl _ s

theorem orderPhase_keeps (k : OrderKind) (p : OrderPhase) (s : State) : Keeps { kps := true, ind := true, psq := true, zc := true, fc := true, hbw := true, exc := true, rpu := true, mem := true, sst := true } s (s.orderPhase k p) := by
  unfold State.orderPhase State.takeKind State.completeKind
  cases p <;> dsimp only <;> split
  · exact actOrder_keeps _ _ (takeOrder_keeps _)
  · exact .refl _ s
  · exact completeAndTrigger_keeps _ s
  · exact .refl _ s
  · exact (actOrder_keeps _ _ (takeOrder_keeps _)).trans (completeAndTrigger_keeps _ _)
  · exact .refl _ s

theorem storeEnds_keeps (r : OrderResult) (next : IntakeReach) (s : State) : Keeps { kps := true, ind := true, psq := true, zc := true, fc := true, hbw := true, exc := true, rpu := true, mem := true, sst := true } s (s.storeEnds r next) := by
  unfold State.storeEnds; split
  · exact ((endStore_keeps r s).mono (by decide)).trans (completeAndTrigger_keeps _ _)
  · exact .refl _ s

theorem failWith_keeps (c : Cause) (between : Option IntakeReach) (s : State) : Keeps { kps := true, ind := true, psq := true, zc := true, fc := true, hbw := true, exc := true, rpu := true, mem := true, sst := true } s (s.failWith c between) := by
  unfold State.failWith
  split
  · exact actOrder_keeps _ _ ((fail_keeps c s).mono (by decide))
  · split
    · exact ((actOrder_keeps _ _ ((decided_keeps c s).mono (by decide))).trans (trigger_keeps _ _)).trans
        (actOrder_keeps _ _ ((carryOutNow_keeps _ _).mono (by decide)))
    · exact .refl _ s

/-! ## Expiries of PSQ's and HBW's timers -/

theorem deglitchExpiry_keeps (s : State) : Keeps { psq := true, zc := true, hbw := true, exc := true, rpu := true, mem := true } s (s.deglitchExpiry) := by
  unfold State.deglitchExpiry
  refine Keeps.trans (t := _) ?_ (pgChanged_keeps _ _)
  constructor <;> first | rfl | (intro _; rfl) | (intro h; exact Bool.noConfusion h) | exact fun h => h

end Sys2Proof.Laws
end

