-- ==== Sys2Proof/Laws/Step.lean ====
section
/-! SUPPORT. What the shared shapes of a command answer: `live`, `command` and `commandIf`, held in a reset or not, due or not; and
what sends and delivers an OPERATOR failure. -/

namespace Sys2Proof.Laws

open Sys2Proof Sys2Proof.Machine

variable {s : State} {dt : Nat} {f : State → State} {r : Rewrites} {c : State → Bool}

/-! ## The shapes of a command -/

theorem live_next (h : s.resetting = none) : s.live dt f = .next (f (s.elapse dt)) := by
  simp [State.live, h]

theorem live_reset (h : s.resetting ≠ none) : s.live dt f = .next (s.elapse dt) := by
  cases hr : s.resetting with
  | none => exact absurd hr h
  | some k => simp [State.live, hr]

theorem command_next (h : s.resetting = none) : s.command dt r f = .next (State.act r f (s.elapse dt)) := live_next h

theorem command_reset (h : s.resetting ≠ none) : s.command dt r f = .next (s.elapse dt) := live_reset h

theorem commandIf_due (h : s.resetting = none) (hc : c (s.elapse dt) = true) :
    s.commandIf dt r c f = .next (State.act r f (s.elapse dt)) := by
  simp [State.commandIf, live_next h, hc]

theorem commandIf_idle (hc : c (s.elapse dt) = false) : s.commandIf dt r c f = .next (s.elapse dt) := by
  cases hr : s.resetting with
  | none => simp [State.commandIf, live_next hr, hc]
  | some k => exact live_reset (by simp [hr])

/-- A command with an effect changes what the effect and KPS's answer to it change, and the window. -/
theorem command_keeps {b : Blocks} (h : ∀ s, Keeps b s (f s)) {t : State} (e : s.command dt r f = .next t) :
    t.pending = s.pending ∧ t.clock = s.clock + dt ∧ t.resetting = s.resetting := by
  cases hr : s.resetting with
  | none =>
    have k := act_keeps r f (s.elapse dt) (h _)
    rw [command_next hr] at e
    cases e
    exact ⟨k.pending, k.clock, k.resetting.trans hr⟩
  | some m =>
    rw [command_reset (by simp [hr])] at e
    cases e
    exact ⟨rfl, rfl, hr⟩

/-! ## Effects that leave everything -/

theorem guarded_false (h : c s = false) : s.guarded c f = s := by simp [State.guarded, h]

theorem guarded_true (h : c s = true) : s.guarded c f = f s := by simp [State.guarded, h]

theorem keypadFollows_same (s : State) : s.keypadFollows s.psq.state = s := by
  simp [State.keypadFollows]

theorem writeAnchor_same (s : State) : State.writeAnchor s s = s := by
  simp [State.writeAnchor, anchorWatched]

/-- A step that changes nothing shows nothing. -/
theorem publish_same (s : State) : State.publish {} s s = s := by
  simp [State.publish, writeAnchor_same, State.supervisionChanged, State.panelChanged, State.rewriteIf]

theorem act_id (s : State) : State.act {} id s = s := by
  simp [State.act, keypadFollows_same, publish_same]

/-! ## The way of an OPERATOR failure -/

theorem sendOperator_at_once (h : s.kps.operatorLate = false) : s.sendOperator = s.fail .operator := by
  simp [State.sendOperator, h]

theorem sendOperator_delayed (h : s.kps.operatorLate = true) :
    s.sendOperator = { s with kps := { s.kps with operatorSent := s.kps.operatorSent + 1 } } := by
  simp [State.sendOperator, h]

theorem operatorArrives_none (h : s.kps.operatorSent = 0) :
    s.operatorArrives = { s with kps := { s.kps with operatorLate := false } } := by
  simp [State.operatorArrives, h]

theorem operatorArrives_next {n : Nat} (h : s.kps.operatorSent = n + 1) :
    s.operatorArrives =
      State.fail .operator { s with kps := { s.kps with operatorSent := n, operatorLate := decide (n ≠ 0) } } := by
  simp [State.operatorArrives, h]

end Sys2Proof.Laws
end

