-- ==== Sys2Proof/WellFormed.lean ====
section
/-! DEFINITION. Which commands the part's surroundings can give. Most operands are bounded by their types; what is left is the
length of an image read from the EEPROM (R196: 153 words). -/

namespace Sys2Proof

/-- A read of the image brings all of its 153 words (R196). -/
def ReadBack.wellFormed : ReadBack → Bool
  | .noAnswer _ => true
  | .words ws => ws.length == 153

/-- The checks on a command's operands that their types do not make. -/
def Instr.wellFormed : Instr → Bool
  | .startUpLoad _ r => r.wellFormed
  | .storeSettingsEnd _ r => r.wellFormed
  | .supplyReset .. => true
  | .pinReset .. => true
  | .resetEnd .. => true
  | .eepromAckTimeout .. => true
  | .controlPeriod .. => true
  | .uptimeTick .. => true
  | .tachEdge .. => true
  | .tachOverrun .. => true
  | .hostPgChange .. => true
  | .pgDeglitchExpiry .. => true
  | .settleTimerExpiry .. => true
  | .powerGoodTimerExpiry .. => true
  | .pulseTimerExpiry .. => true
  | .offTimerExpiry .. => true
  | .delayTimerExpiry .. => true
  | .retryTimerExpiry .. => true
  | .bootDeadlineExpiry .. => true
  | .watchTimerExpiry .. => true
  | .graceTimerExpiry .. => true
  | .windowLowHalfWrite .. => true
  | .windowHighHalfWrite .. => true
  | .windowLowHalfRead .. => true
  | .windowHighHalfRead .. => true
  | .attach .. => true
  | .detach .. => true
  | .orderWriteIndex .. => true
  | .reportReadIndex .. => true
  | .heartbeat .. => true
  | .nudge .. => true
  | .notice .. => true
  | .noticeEnable .. => true
  | .registerWriteIgnored .. => true
  | .intakePollTimerExpiry .. => true
  | .noOp .. => true
  | .readSetting .. => true
  | .writeSetting .. => true
  | .storeSettings .. => true
  | .storeTimeout .. => true
  | .restoreDefaults .. => true
  | .snapshot .. => true
  | .armWatch .. => true
  | .disarmWatch .. => true
  | .requestRestart .. => true
  | .requestStandby .. => true
  | .clearHistory .. => true
  | .loadKeymap .. => true
  | .unmaskKey .. => true
  | .resetFilter .. => true
  | .slowScan .. => true
  | .activeScan .. => true
  | .activityTimerExpiry .. => true
  | .repeatDelay .. => true
  | .repeatInterval .. => true
  | .stuckTime .. => true
  | .chatterQuietTime .. => true
  | .chatterWindowRestart .. => true
  | .chordFire .. => true
  | .serviceWindowClose .. => true
  | .operatorRestart .. => true
  | .frameStart .. => true
  | .groupSlot .. => true
  | .lampTestExpiry .. => true
  | .heaterOnTimeEnd .. => true

end Sys2Proof
end

