-- ==== Sys2Proof/Tests/Slice0.lean ====
section
/-! SUPPORT. Small tests, with figures from the spec's tables and examples, and, for each statement that has hypotheses, a
concrete state that meets them together. -/

namespace Sys2Proof.Tests

open Sys2Proof Sys2Proof.Machine

-- One theorem after the other: many kernel evaluations at once ask for more threads than the check allows.
set_option Elab.async false

/-! ## States -/

/-- A part that has started, at moment 0 of the clock, with the timers of its start just begun. -/
def up : State :=
  { State.reset with
    resetting := none, period := some 0, sst := { SettingsStore.reset with store := .idle }
    kps := { Keypad.reset with nextScan := some 0, chatterWindow := some 0 }
    ind := { Indicators.reset with blink := some 0, frame := some 0 }
    exc := { Exchange.reset with poll := some 0 } }

/-- The state answered, the one before it where there is none. -/
def after (s : State) (c : Instr) : State :=
  match exec c s with
  | .next t => t
  | _ => s

/-- The computer up in a sequencer state, its watch in a phase. -/
def computer (st : SeqState) (ph : WatchPhase) (s : State) : State :=
  { s with
    psq := { s.psq with state := st, mainEn := true, hostReset := false, pgSeen := true, hostPg := true }
    hbw := { s.hbw with phase := ph } }

/-- An order queue of 4 entries at word 256 and a report queue of 4 at word 512, attached. -/
def attached (s : State) : State :=
  { s with
    exc := { s.exc with
      state := .attached, layout := { orderBase := 256, orderMask := 3, reportBase := 512, reportMask := 3 } }
    rpu := { s.rpu with view := some { base := 512, mask := 3 } } }

/-- A computer that runs, attached, its watch armed. -/
def live : State := attached (computer .running .watch up)

/-- An order record of a code and up to four operands. -/
def order (code : Nat) (a b c d : Word) : OrderRecord :=
  { w0 := BitVec.ofNat 32 code, w1 := a, w2 := b, w3 := c, w4 := d, w5 := 0#32, w6 := 0#32, w7 := 0#32 }

/-- An order written into the first entry of the queue, the write index behind it. -/
def offering (r : OrderRecord) (s : State) : State :=
  (s.setWords 256 [r.w0, r.w1, r.w2, r.w3, r.w4, r.w5, r.w6, r.w7]).setWord 38 1#32

/-- An order in hand, taken from the only entry of the queue. -/
def inHand (r : OrderRecord) (res : Option OrderResult) : OrderInHand :=
  { record := r, entry := 256, discard := false, result := res }

/-- That order held, as the last of the queue. -/
def holding (r : OrderRecord) (res : Option OrderResult) (s : State) : State :=
  { (s.setWord 38 1#32) with exc := { s.exc with inHand := some (inHand r res) } }

/-- A result of an order that was done. -/
def doneResult : OrderResult := { outcome := .done, value := 0#32, detail := 0#32 }

/-- A state with one key changed. -/
def withKey (p : Position) (f : Key → Key) (s : State) : State := s.setKey p (f (s.key p))

/-- A state with one key map entry changed. -/
def withEntry (p : Position) (f : KeyEntry → KeyEntry) (s : State) : State :=
  { s with sst := { s.sst with keymap := s.sst.keymap.set p (f (s.entry p)) } }

/-- The copy of the defaults, whose image a load takes back. -/
def defaults : StoreCopy := { table := defaultTable, keymap := defaultKeyMap }

/-- Six equal measurements. -/
def measured (c : BitVec 12) : Vector Measurement 6 := Vector.replicate 6 (.code c)

/-! ## Well-formedness -/

theorem test_short_image_refused : (Instr.startUpLoad 0 (.words [])).wellFormed = false := by decide

theorem test_short_read_back_refused : (Instr.storeSettingsEnd ⟨0, .toAnswer⟩ (.words [0#32])).wellFormed = false := by decide

theorem test_no_answer_accepted : (Instr.startUpLoad 0 (.noAnswer 0)).wellFormed = true := by decide

theorem test_no_word_spells_a_command : decodeTableWord 32 1 = none := rfl

/-! ## Figures of the spec -/

/-- R5: four equal entries give that value; a floor toward negative infinity. -/
theorem test_filter : filteredOf 80 80 80 80 = 80 ∧ filteredOf (-1) (-1) (-1) 0 = -1 ∧ filteredOf (-2048) (-2048) (-2048) (-2048) = -2048 := by
  decide

/-- R14, worked in chapter 11: +160, +40, a loss floored at 0. -/
theorem test_credit : creditAfter (-240) 16 0 = 160 ∧ creditAfter (-80) (-40) 38360 = 38400 ∧ creditAfter 0 (-16) 0 = 0
    ∧ creditAfter 0 0 7 = 7 ∧ creditAfter 0 1280 65500 = 65535 := by decide

/-- The table of R32. -/
theorem test_request_power : requestPower 40 256 = 40 ∧ requestPower 30 128 = 15 ∧ requestPower 120 200 = 94
    ∧ requestPower 10 64 = 3 ∧ requestPower 8 1 = 1 ∧ requestPower 250 255 = 250 ∧ requestPower 250 0 = 0 := by decide

/-- The six requests of chapter 11 from period 7000. -/
def soakRequests : Vector LoadRequest 6 :=
  #v[⟨184, 0, 40⟩, ⟨200, 0, 30⟩, ⟨256, 1, 120⟩, ⟨64, 1, 20⟩, ⟨0, 0, 8⟩, ⟨0, 0, 8⟩]

/-- Chapter 11: 150 W without the reservation. -/
theorem test_allocation_off : (Allocator.reset.allocate soakRequests 150 60 false).loads.toList.map (fun l => (l.grant, l.granted))
    = [(29, 184), (24, 200), (93, 198), (3, 38), (0, 0), (0, 0)] := by decide +kernel

/-- Chapter 11: 90 W with it. -/
theorem test_allocation_on : (Allocator.reset.allocate soakRequests 150 60 true).loads.toList.map (fun l => (l.grant, l.granted))
    = [(29, 184), (24, 200), (35, 74), (1, 12), (0, 0), (0, 0)]
    ∧ (Allocator.reset.allocate soakRequests 150 60 true).total = 89
    ∧ (Allocator.reset.allocate soakRequests 150 60 true).shortClass = some 1 := by decide +kernel

/-- R43: a reservation not smaller than the budget grants nothing, and class 0 is short by its whole total. -/
theorem test_allocation_none : (Allocator.reset.allocate soakRequests 60 60 true).total = 0
    ∧ (Allocator.reset.allocate soakRequests 60 60 true).shortfall = 53
    ∧ (Allocator.reset.allocate soakRequests 60 60 true).short0 = true := by decide +kernel

/-- The table of R57. -/
theorem test_speed : speedOf (some 7500) = 4000 ∧ speedOf (some 7499) = 4000 ∧ speedOf (some 10000) = 3000
    ∧ speedOf (some 15000) = 2000 ∧ speedOf (some 65535) = 457 ∧ speedOf none = 0 := by decide

/-- The table of R58. -/
theorem test_stall_threshold : [256, 192, 96, 64].map (fun g => Fan.threshold { Fan.reset 0 with grant := g }) = [1000, 750, 375, 250] := by
  decide +kernel

/-- R55: an edge at a count of 0 µs is ignored, one at 65535 µs is latched, one past it is not. -/
theorem test_tach : (Fan.edge 9 { Fan.reset 0 with tach := .running 9 }).capture = .none
    ∧ (Fan.edge 65544 { Fan.reset 0 with tach := .running 9 }).capture = .unread 65535
    ∧ (Fan.edge 65545 { Fan.reset 0 with tach := .running 9 }).capture = .none := by decide +kernel

/-- R192: with Tr at −80 a Ts of −100 is stored as −64; with the cycle limit at 5 a warm limit of 7 is stored as 5; a role lamp above
15 is 255. -/
theorem test_clamp : clampSetting defaultTable 16 (-100) = -64 ∧ clampSetting defaultTable 69 7 = 5
    ∧ clampSetting defaultTable 96 16 = 255 ∧ clampSetting defaultTable 96 (-1) = 0 := by decide +kernel

/-- R120: the default entry of position 0, and R180's word of it: code 1, chord member, BOTH, WAKE. -/
theorem test_key_word : (defaultKey 0).word = 0x1A01#32 ∧ KeyEntry.ofWord 0x1A01#32 = some (defaultKey 0)
    ∧ KeyEntry.ofWord 0x0C01#32 = none ∧ KeyEntry.ofWord 0x4001#32 = none := by decide +kernel

/-- R196, R197: an image of 153 words whose sum is 0, stored by 20 page writes and the signature. -/
theorem test_image : (imageOf defaults).length = 153 ∧ wordSum (imageOf defaults) = 0#32 ∧ (storeWrites defaults).length = 21 := by
  decide +kernel

/-- R151: the borders of SLOW and FAST. -/
theorem test_blink : LampMode.litAt .slow 499 = true ∧ LampMode.litAt .slow 500 = false ∧ LampMode.litAt .fast 374 = true
    ∧ LampMode.litAt .fast 375 = false := by decide

/-- R128's table: with 8, 10, 20 and 22 DOWN the two not yet debounced are held; with 10 let go none is. -/
def rectangle : State :=
  withKey 8 (fun k => { k with deb := true }) (withKey 10 (fun k => { k with deb := true }) up)

theorem test_ghost : (rectangle.storeRaw 0x500500#48).ghost 20 = true ∧ (rectangle.storeRaw 0x500500#48).ghost 22 = true
    ∧ (rectangle.storeRaw 0x500500#48).ghost 8 = false ∧ (rectangle.storeRaw 0x100100#48).ghost 20 = false := by decide +kernel

/-- A record of R109 whose stamp is the present moment. -/
def recent (n : Nat) : HistoryRecord :=
  { sequence := n, cause := .watchExpired, kind := .automatic, action := .warm, counted := true, stamp := 0#32, z0Temp := none,
    heartbeat := 0#32, heartbeatAge := 0#32, lastOrder := 0, seqState := .warned, attached := true }

/-- Chapter 11's ladder: the third recent failure is answered WARM, the fourth COLD, the sixth HOLDOFF. -/
theorem test_ladder :
    [2, 3, 5].map (fun n => State.actionFor .watchExpired
      { up with hbw := { up.hbw with history := (List.range n).map recent } }) = [.warm, .cold, .holdoff] := by decide +kernel

/-- A key report of a position. -/
def keyEvent (k : ReportKind) (p n : Nat) : Report :=
  { kind := k, source := p, detail := 0, value := p + 1, stamp := 0#32, number := BitVec.ofNat 32 n }

/-- Chapter 11's storm: a full list gives up its oldest press with its release. -/
def storm : List Report :=
  keyEvent .boot 0 105 :: (List.range 15).map fun i => keyEvent (if i % 2 = 0 then .keyDown else .keyUp) 13 (106 + i)

theorem test_storm : ((takeIn storm (keyEvent .keyUp 13 121)).1.map Report.number).take 2 = [105#32, 108#32]
    ∧ (takeIn storm (keyEvent .keyUp 13 121)).2 = 2 ∧ (takeIn storm (keyEvent .keyUp 13 121)).1.length = 15 := by decide +kernel

/-! ## One step -/

/-- Chapter 11, the first period at −35 °C (Case 2 of chapter 2): Z2 gets 68 W at duty 145, Z3 11 W at duty 140. -/
theorem test_first_period :
    (after { up with psq := { up.psq with state := .heating } }
      (.controlPeriod 250000 (measured (BitVec.ofInt 12 (-560))) .afterAllocation)).la.loads.toList.map
      (fun l => (l.grant, l.granted)) = [(40, 256), (30, 256), (68, 145), (11, 140), (0, 0), (0, 0)] := by decide +kernel

/-- A period before its 250 ms does nothing. -/
theorem test_early_period : (after up (.controlPeriod 249999 (measured 0#12) .afterAllocation)).period = some 0 := by decide +kernel

/-- R22: a warm intake makes the zones READY at once, and R71 lets PSQ into POWERING. -/
theorem test_warm_start :
    (after { up with psq := { up.psq with state := .heating } } (.controlPeriod 250000 (measured 300#12) .beforeAllocation)).psq.state
      = .powering := by decide +kernel

theorem test_settle :
    (after { up with psq := { up.psq with state := .powering, settle := some 0, pgSeen := true } } (.settleTimerExpiry 50000)).psq.hostReset
      = false := by decide +kernel

/-- R84, R106: a first boot timeout is answered WARM, in RESTARTING. -/
theorem test_boot_timeout :
    (after (computer .booting .boot { up with hbw := { up.hbw with boot := some ⟨0, 180000000⟩ } })
      (.bootDeadlineExpiry ⟨180000000, none⟩)).psq.state = .restarting := by decide +kernel

/-- R162: halves staged and committed reach the word. -/
theorem test_half_writes :
    (after (after up (.windowLowHalfWrite 0 41 0x1234#16)) (.windowHighHalfWrite 0 41 0xABCD#16)).mem.word 41 = 0xABCD1234#32 := by
  decide +kernel

/-- R161: the part's own words are not the host's to write. -/
theorem test_part_word : (after up (.windowHighHalfWrite 0 31 1#16)).mem = up.mem := by decide +kernel

/-- R176, R174: NO_OP is answered DONE with its tag kept: code 1, tag 0x77, outcome 1 in bits 24 to 31. -/
theorem test_no_op :
    (after (offering (order 0x7701 0 0 0 0) live) (.nudge ⟨0, .toAnswer⟩ 0)).mem.word 256 = 0x01007701#32
    ∧ (after (offering (order 0x7701 0 0 0 0) live) (.nudge ⟨0, .toAnswer⟩ 0)).rpu.pending = 1#4 := by decide +kernel

/-- R173: code 15 is no order's. -/
theorem test_unknown : (after (offering (order 15 0 0 0 0) live) (.nudge ⟨0, .toAnswer⟩ 0)).mem.word 256 = 0x0300000F#32 := by decide +kernel

/-- R113, R77: HOST_WARM is answered, then carried out. -/
theorem test_restart :
    (after (offering (order 9 1 0 0 0) live) (.requestRestart 0 .carryOut)).psq.state = .running
    ∧ (after (offering (order 9 1 0 0 0) live) (.requestRestart 0 (.whole .toAnswer))).psq.state = .restarting := by decide +kernel

/-- R96: the value last seen is no heartbeat. -/
theorem test_heartbeat : (after live (.heartbeat 0 0#32)).hbw.count = 0#32 ∧ (after live (.heartbeat 0 7#32)).hbw.count = 1#32 := by
  decide +kernel

/-- R202: 999 ns of RESET_N is no pin reset. -/
theorem test_short_pulse : (after up (.pinReset 0 999)).resetting = none ∧ (after up (.pinReset 0 1000)).resetting = some .pin := by
  decide +kernel

/-- R202: VDD back above 2.75 V only 1 µs before does not end a supply reset; 10 ms of it does. -/
theorem test_supply_hold :
    let dipped := after (after up (.supplyReset 0 2749)) (.supplyReset 50000 3300)
    (after dipped (.resetEnd 1)).resetting = some .supply ∧ (after dipped (.resetEnd 9999)).resetting = some .supply
    ∧ (after dipped (.resetEnd 10000)).resetting = none := by decide +kernel

/-- R201: HD0 to HD15 stay at high impedance through the reset and the load, while the load uses the EEPROM port. -/
theorem test_bus_after_load :
    let begun := after State.reset (.resetEnd 10000)
    State.reset.pins.busEnabled = false ∧ begun.resetting = none ∧ begun.pins.busEnabled = false
    ∧ begun.pins.eepromPort = true ∧ (after begun (.startUpLoad 10000 (.noAnswer 0))).pins.busEnabled = true := by
  decide +kernel

/-- R181: bit 5 of a fan's first word is the trip flag, bit 3 the exhaust flag. -/
theorem test_forced_bits :
    (Fan.mirrorWords { Fan.reset 0 with forcedTrip := true })[0]? = some 0x22#32
    ∧ (Fan.mirrorWords { Fan.reset 0 with forcedExhaust := true })[0]? = some 0xA#32 := by decide +kernel

/-- R152, R155: with the defaults the first frame in STANDBY shows every lamp OFF by roles 0 to 5. -/
theorem test_frame : (after up (.frameStart 20000)).ind.sources.toList.take 7 = [.role, .role, .role, .role, .role, .role, .dark] := by
  decide +kernel

/-- R159: a lamp test shows every lamp ON. -/
theorem test_lamp_test :
    (after { up with ind := { up.ind with lampTest := some 0 } } (.frameStart 20000)).ind.shown.toList = List.replicate 16 .on := by
  decide +kernel

/-! ## States that meet the hypotheses of the statements, at the borders of their ranges -/

/-- A part that is out of reset and still loads. -/
def loading : State := { State.reset with resetting := none }

/-- The signature, the revision, and words of zeros up to 153. -/
def badSum : List Word := 0x4F524443#32 :: 1#32 :: List.replicate 151 0#32

theorem witness_step : (up.enqueueFront (.uptimeTick 0)).pending = [.uptimeTick 0] ∧ up.pending = [] := by decide +kernel

theorem witness_OnlyTheClockMovesInReset : State.reset.resetting ≠ none ∧ actsInReset (.uptimeTick 0) = false := by decide

theorem witness_PartResetsAreTaken :
    2749 < 2750 ∧ 2750 < 2751 ∧ (after up (.supplyReset 0 2749)).vddUp = none ∧ State.reset.vddUp ≠ none
    ∧ 1000 ≤ 1000 ∧ up.resetting = none ∧ 999 < 1000 ∧ State.reset.resetting ≠ none := by decide

theorem witness_ResetEndSetsTheWindow :
    State.reset.resetting = some .supply ∧ State.reset.vddUp = some 0 ∧ 0 + 10000 ≤ State.reset.clock + 10000
    ∧ (up.partReset .pin).resetting = some .pin ∧ (up.partReset .pin).vddUp = some 0
    ∧ State.reset.clock + 9999 < 0 + 10000 ∧ up.resetting = none ∧ (after up (.supplyReset 0 2749)).vddUp = none := by decide

theorem witness_StartUpLoadEnds :
    loading.resetting = none ∧ loading.sst.store = .loading ∧ loading.psq.state = .standby ∧ loading.rpu.view = none
    ∧ loading.rpu.holding.length < 16 ∧ loading.sst.since + 10000 ≤ loading.clock + 10000
    ∧ (imageOf defaults).length = 153 ∧ (imageOf defaults)[0]? = some 0x4F524443#32 ∧ (imageOf defaults)[1]? = some 1#32
    ∧ (imageOf defaults).foldl (· + ·) 0#32 = 0#32
    ∧ (List.replicate 153 0#32).length = 153 ∧ (List.replicate 153 0#32)[0]? ≠ some 0x4F524443#32
    ∧ (0x4F524443#32 :: List.replicate 152 0#32)[1]? ≠ some 1#32
    ∧ badSum.length = 153 ∧ badSum[1]? = some 1#32 ∧ badSum.foldl (· + ·) 0#32 ≠ 0#32 := by decide +kernel

/-- A WATCH_EXPIRED record, counted, with sequence 7. -/
def keptRecord : HistoryRecord :=
  { sequence := 7, cause := .watchExpired, kind := .automatic, action := .warm, counted := true, stamp := 9#32, z0Temp := some (-5)
    heartbeat := 3#32, heartbeatAge := 4#32, lastOrder := 8, seqState := .running, attached := true }

/-- A part loading after a pin reset that kept the record in its window. -/
def kept : State :=
  { loading with resetCause := .pin, mem := (loading.setHistory [keptRecord]).mem }

/-- The kept record is storable, and the window shows the list of it. -/
theorem kept_shown : keptRecord.storable ∧ HistoryShown { kept with hbw := { kept.hbw with history := [keptRecord] } } := by
  refine ⟨by unfold HistoryRecord.storable; refine ⟨by decide, by decide, by decide, ?_⟩; intro v h; cases h; decide, ?_, ?_⟩
  · intro i h
    match i, h with
    | 0, _ => decide +kernel +revert
    | i + 1, h => exact absurd h (by simp)
  · have h : ∀ w : Nat, w < 256 → 200 ≤ w → kept.mem.word w = 0#32 := by decide +kernel
    exact fun w a b => h w b a

/-- R119: the kept list is read back, its counted flag cleared, and the PIN_RESET record follows it. -/
theorem test_history_read_back :
    (after kept (.startUpLoad 45000 (.noAnswer 0))).hbw.history.map (fun r => (r.cause, r.sequence, r.counted))
      = [(.watchExpired, 7, false), (.pinReset, 8, false)] := by decide +kernel

theorem witness_StoredImageLoadsBack : TableOk defaults.table ∧ ∀ p : Position, defaults.keymap[p].code < 256 := by
  unfold TableOk; decide +kernel

/-- HBW's timer of a phase at work, the time until it expires shown or not. -/
def timing (ph : WatchPhase) (f : HeartbeatWatch → HeartbeatWatch) : State :=
  let s := computer .running ph up
  { s with hbw := f s.hbw }

theorem witness_UptimeTickCounts :
    up.resetting = none ∧ up.tickAt + 10000 ≤ up.clock + 10000
    ∧ up.mem.word 134 = BitVec.ofNat 32 (after up (.uptimeTick 10000)).watchRemaining
    ∧ (let s := timing .watch fun h => { h with watch := some ⟨0, 20000⟩ }
      s.hbw.phase = .watch ∧ s.hbw.watch = some ⟨0, 20000⟩
      ∧ s.mem.word 134 ≠ BitVec.ofNat 32 (after s (.uptimeTick 10000)).watchRemaining)
    ∧ (timing .boot fun h => { h with boot := some ⟨0, 20000⟩ }).hbw.boot = some ⟨0, 20000⟩
    ∧ (timing .grace fun h => { h with grace := some ⟨0, 20000⟩ }).hbw.grace = some ⟨0, 20000⟩ := by decide +kernel

/-- A fan's tach count in a condition. -/
def counting (t : TachCount) : State := { up with fc := { up.fc with fans := up.fc.fans.set 0 { Fan.reset 0 with tach := t } } }

/-- A zone with a granted duty, its heater frame begun. -/
def heated (d : Nat) : State :=
  { up with zc := { up.zc with frameAt := some 0, zones := up.zc.zones.set 0 { Zone.reset 0 with granted := d } } }

theorem witness_TachAndHeaterTimesAreKept :
    (counting .noEdge).fc.fans[0].tach = .noEdge ∧ (counting .overrun).fc.fans[0].tach = .overrun
    ∧ (counting (.running 0)).fc.fans[0].tach = .running 0 ∧ 0 + 0 = up.clock + 0 ∧ 0 + 65535 = up.clock + 65535
    ∧ 0 + 65535 < up.clock + 65536 ∧ (heated 1).zc.frameAt = some 0 ∧ (heated 1).zc.zones[0].granted = 1
    ∧ 0 * 256 + 1 * 250000 ≤ (up.clock + 977) * 256 ∧ (heated 255).zc.zones[0].granted = 255
    ∧ 0 * 256 + 255 * 250000 ≤ (up.clock + 249024) * 256 := by decide +kernel

/-- The premises of every statement about a control period. -/
theorem witness_control_period :
    up.resetting = none ∧ up.period = some 0 ∧ 0 + 250000 ≤ up.clock + 250000
    ∧ ({ up with zc := { up.zc with firstPeriod := false } } : State).zc.firstPeriod = false
    ∧ up.noOverheatDue ∧ ({ up with zc := { up.zc with dwell := 39 } } : State).noOverheatDue
    ∧ ({ live with zc := { live.zc with dwell := 38 } } : State).noOverheatDue
    ∧ up.rpu.view = none ∧ up.rpu.discards ≤ 65535 := by
  unfold State.noOverheatDue; decide +kernel

/-- A first period at a warm intake: reports are given, and the holding list has room for all of them. -/
theorem witness_MeasurementsAreApplied :
    let t := after up (.controlPeriod 250000 (measured 300#12) .afterAllocation)
    up.rpu.holding.length + (periodReports (measured 300#12) up t).length ≤ 16 ∧ periodReports (measured 300#12) up t ≠ []
    ∧ warmAt up t = true := by decide +kernel

/-- PSQ in HEATING, at the end of a start. -/
def heating : State := { up with psq := { up.psq with state := .heating } }

theorem heating_supervised : SupervisionOk heating :=
  ⟨rfl, rfl, fun _ => rfl, fun h => absurd h (by decide), fun h => absurd h (by decide), fun h => absurd h (by decide)⟩

theorem witness_ReadinessComesOnlyAtAControlPeriod :
    ∃ t, exec (.controlPeriod 250000 (measured 300#12) .beforeAllocation) heating = .next t
      ∧ t.zc.zones[(0 : Fin 4)].state = .ready ∧ heating.zc.zones[(0 : Fin 4)].state ≠ .ready :=
  ⟨after heating (.controlPeriod 250000 (measured 300#12) .beforeAllocation), rfl, by decide +kernel, by decide +kernel⟩

theorem witness_RailComesOnOnlyThroughTheGate :
    ∃ t, SupervisionOk heating ∧ exec (.controlPeriod 250000 (measured 300#12) .beforeAllocation) heating = .next t
      ∧ heating.psq.mainEn = false ∧ t.psq.mainEn = true :=
  ⟨after heating (.controlPeriod 250000 (measured 300#12) .beforeAllocation), heating_supervised, rfl, rfl, by decide +kernel⟩

theorem witness_MirrorFollowsTheControlPeriod : ∀ q, live.rpu.view = some q → 256 ≤ q.base ∧ q.base + (q.mask + 1) * 4 ≤ 2048 := by
  intro q h; cases h; decide

/-! ### The sequencer and the watch -/

/-- PSQ in a state with the timers given. -/
def sequencer (f : Sequencer → Sequencer) : State := { up with psq := f up.psq }

/-- HOST_PG at a new level, its deglitch begun. -/
def deglitching (level : Bool) (s : State) : State := { s with psq := { s.psq with hostPg := level, deglitch := some 0 } }

theorem witness_PowerGoodIsDeglitched :
    up.psq.hostPg = false ∧ up.psq.hostPg ≠ true
    ∧ (deglitching true up).psq.deglitch = some 0 ∧ 0 + 2000 ≤ up.clock + 2000 ∧ (deglitching true up).psq.state.up = false
    ∧ (deglitching true (sequencer fun p => { p with state := .powering })).psq.state = .powering
    ∧ (deglitching true live).psq.state.up = true ∧ (deglitching true live).psq.hostPg = true := by decide +kernel

/-- PSQ at the settle of POWERING. -/
def settling : State := sequencer fun p => { p with state := .powering, settle := some 0, pgTimer := some 0 }

/-- PSQ in the pulse of RESTARTING, with power good seen or not. -/
def pulsing (pg : Bool) : State := sequencer fun p => { p with state := .restarting, pulse := some 0, pgSeen := pg }

theorem witness_BootingIsEntered :
    settling.psq.state = .powering ∧ settling.psq.settle = some 0 ∧ 0 + 50000 ≤ settling.clock + 50000 ∧ settling.kps.window = none
    ∧ (pulsing true).psq.state = .restarting ∧ (pulsing true).psq.pulse = some 0 ∧ 0 + 200000 ≤ up.clock + 200000
    ∧ (pulsing true).psq.pgSeen = true ∧ (pulsing true).kps.window = none := by decide +kernel

/-- The computer with HBW's timers given. -/
def watched (st : SeqState) (ph : WatchPhase) (f : HeartbeatWatch → HeartbeatWatch) : State :=
  let s := attached (computer st ph up)
  { s with hbw := f s.hbw }

/-- The three expiries, each at its moment. -/
def booting : State := watched .booting .boot fun h => { h with boot := some ⟨0, 10⟩ }
def warned : State := watched .warned .grace fun h => { h with grace := some ⟨0, 10⟩ }
def expiring : State := watched .running .watch fun h => { h with watch := some ⟨0, 10⟩, source := .order, orderGrace := 0 }

theorem witness_AutomaticFailuresAreDecided :
    up.resetting = none ∧ settling.psq.held = none ∧ settling.psq.state = .powering ∧ settling.psq.pgTimer = some 0
    ∧ 0 + 2000000 ≤ settling.clock + 2000000
    ∧ (pulsing false).psq.held = none ∧ (pulsing false).psq.pgSeen = false ∧ (pulsing false).psq.pulse = some 0
    ∧ (deglitching false live).psq.held = none ∧ (deglitching false live).psq.state.up = true
    ∧ (deglitching false live).psq.hostPg = false ∧ (deglitching false live).psq.deglitch = some 0
    ∧ (∀ a ∈ [Action.warm, .cold],
      ({ deglitching false live with psq := { (deglitching false live).psq with held := some a } } : State).psq.held = some a)
    ∧ booting.psq.state = .booting ∧ booting.hbw.phase = .boot ∧ booting.hbw.boot = some ⟨0, 10⟩ ∧ 0 + 10 ≤ up.clock + 10
    ∧ warned.psq.state = .warned ∧ warned.hbw.phase = .grace ∧ warned.hbw.grace = some ⟨0, 10⟩
    ∧ expiring.psq.state = .running ∧ expiring.hbw.phase = .watch ∧ expiring.hbw.watch = some ⟨0, 10⟩
    ∧ expiring.hbw.source = .order ∧ expiring.hbw.orderGrace = 0
    ∧ (State.placeSetting 67 0 { expiring with hbw := { expiring.hbw with source := .settings } }).setting 67 = 0
    ∧ (∀ s ∈ [booting, warned, expiring], s.psq.held = none ∧ s.psq.delay = .stopped ∧ s.exc.readIndex = s.orderWrite) := by
  decide +kernel

/-- An ARM_WATCH that waits at each of the three expiries, in the host area. -/
theorem witness_ArmWatchBetween :
    (offering (order 7 10 5 0 0) booting).offers .armWatch (order 7 10 5 0 0)
    ∧ (offering (order 7 10 5 0 0) warned).offers .armWatch (order 7 10 5 0 0)
    ∧ (offering (order 7 10 5 0 0) expiring).offers .armWatch (order 7 10 5 0 0) ∧ (order 7 10 5 0 0).w3 = 0#32
    ∧ (offering (order 7 10 5 0 0) warned).exc.readIndex + 1 = (offering (order 7 10 5 0 0) warned).orderWrite
    ∧ (offering (order 7 10 5 0 0) warned).orderSlot = 256 ∧ 256 ≤ 256 ∧ 256 + 8 ≤ 2048 := by
  and_intros <;> decide +kernel

/-- Records: one that stays counted, one whose age has reached the restart window, and one that is not AUTOMATIC. -/
def aging : State :=
  let s := { heating with uptime := 360000#32 }
  { s with hbw := { s.hbw with history := [recent 1, { recent 2 with stamp := 1#32 }, { recent 3 with kind := .requested }] } }

theorem witness_HistoryIsKept :
    aging.agedHistory ≠ aging.hbw.history ∧ aging.hbw.history.length ≤ 8 ∧ up.agedHistory = up.hbw.history
    ∧ aging.agedHistory.map HistoryRecord.counted = [false, true, false]
    ∧ ((List.range 8).map recent).length = 8 ∧ (∀ y ∈ (List.range 8).map recent, y.kind = .automatic)
    ∧ ((List.range 3).map recent ++ { recent 3 with kind := .requested } :: (List.range 4).map recent).length = 8 := by
  decide +kernel

theorem witness_queueAside : aging.queueAside ∧ live.queueAside := by
  refine ⟨fun q h => ?_, fun q h => ?_⟩ <;> cases h
  decide

/-- An escalation holdoff, with a retry setting in minutes. -/
def holdoff (minutes : Int) : State :=
  State.placeSetting 72 minutes (sequencer fun p => { p with state := .holdoff, reason := .escalation, retry := some 0 })

/-- SHUTDOWN on its way to STANDBY, its delay running. -/
def shutdown : State :=
  sequencer fun p => { p with state := .shutdown, mainEn := true, hostReset := false, delay := .running ⟨0, 10⟩ }

theorem witness_SequencerTimersEndTheirStates :
    (sequencer fun p => { p with state := .cycling, offTimer := some ⟨0, 10⟩ }).psq.offTimer = some ⟨0, 10⟩
    ∧ 0 + 10 ≤ up.clock + 10
    ∧ (holdoff 1).psq.state = .holdoff ∧ (holdoff 1).psq.reason = .escalation ∧ (holdoff 1).psq.retry = some 0
    ∧ 0 < (holdoff 1).setting 72 ∧ 0 + ((holdoff 1).setting 72).toNat * 60000000 ≤ (holdoff 1).clock + 60000000
    ∧ (holdoff 0).setting 72 = 0
    ∧ shutdown.psq.state = .shutdown ∧ shutdown.psq.target = .standby ∧ shutdown.psq.delay = .running ⟨0, 10⟩ := by decide +kernel

/-- The last period but one of an overheat, and an overheat's holdoff. -/
def overheating : State := { live with period := some 0, zc := { live.zc with dwell := 39 } }
def cooling : State := sequencer fun p => { p with state := .holdoff, reason := .overheat }

theorem witness_OverheatIsCompletedAndReleased :
    overheating.resetting = none ∧ overheating.period = some 0 ∧ 0 + 250000 ≤ overheating.clock + 250000
    ∧ overheating.agedHistory = overheating.hbw.history ∧ overheating.zc.dwell = 39 ∧ overheating.psq.state.railOn = true
    ∧ (after overheating (.controlPeriod 250000 (measured 1521#12) .afterAllocation)).zc.sourceValue = some 1521
    ∧ overheating.setting 5 < 1521 ∧ ¬ overheating.setting 5 < 1520
    ∧ (after overheating (.controlPeriod 250000 (measured 1521#12) .afterAllocation)).psq.reason = .overheat
    ∧ (after overheating (.controlPeriod 250000 (measured 1520#12) .afterAllocation)).zc.sourceValue = some 1520
    ∧ cooling.psq.state = .holdoff ∧ cooling.psq.reason = .overheat ∧ cooling.agedHistory = cooling.hbw.history
    ∧ (after cooling (.controlPeriod 250000 (measured 1200#12) .afterAllocation)).psq.state = .heating
    ∧ (after cooling (.controlPeriod 250000 (measured 1201#12) .afterAllocation)).psq.state = .holdoff
    ∧ (after cooling (.controlPeriod 250000 (Vector.replicate 6 .lowRail) .afterAllocation)).zc.sourceValue = none := by
  and_intros <;> decide +kernel

theorem witness_WatchExpiryStartsTheGrace :
    (watched .running .watch fun h => { h with watch := some ⟨0, 10⟩ }).psq.state = .running
    ∧ (watched .running .watch fun h => { h with watch := some ⟨0, 10⟩ }).hbw.watch = some ⟨0, 10⟩
    ∧ (watched .running .watch fun h => { h with watch := some ⟨0, 10⟩ }).hbw.source = .settings
    ∧ 5 = ((watched .running .watch fun h => { h with watch := some ⟨0, 10⟩ }).setting 67).toNat
    ∧ (watched .running .watch fun h => { h with watch := some ⟨0, 10⟩ }).rpu.view ≠ none
    ∧ (computer .running .watch up).rpu.view = none ∧ (computer .running .watch up).exc.state = .detached := by decide +kernel

theorem witness_HeartbeatActsByThePhase : live.resetting = none ∧ 0#32 = live.hbw.lastValue ∧ 1#32 ≠ live.hbw.lastValue := by
  decide +kernel

/-! ### The exchange -/

theorem witness_HalfWritesArePaired :
    up.resetting = none ∧ (31#11).toNat < 32 ∧ 64 ≤ (64#11).toNat ∧ (255#11).toNat < 256
    ∧ 32 ≤ (33#11).toNat ∧ (63#11).toNat < 64 ∧ 256 ≤ (256#11).toNat ∧ 256 ≤ (2047#11).toNat
    ∧ (0#16 : Half) ++ (State.lowHalfFor 32 { up with exc := { up.exc with staging := some ⟨32, 1#16⟩ } }) = 1#32
    ∧ (0#16 : Half) ++ (State.lowHalfFor 32 { up with exc := { up.exc with staging := some ⟨32, 2#16⟩ } }) = 2#32
    ∧ (0#16 : Half) ++ up.lowHalfFor 32 ≠ 1#32 ∧ (0#16 : Half) ++ up.lowHalfFor 32 ≠ 2#32 := by decide +kernel

theorem witness_HalfReadsAreLatched :
    up.resetting = none
    ∧ ({ up with exc := { up.exc with readLatch := some ⟨9, 1#16⟩ } } : State).exc.readLatch = some ⟨9, 1#16⟩
    ∧ up.exc.readLatch = none := by decide

/-- A host's layout in words 33 to 37: the smallest queues at the lowest places. -/
def laidOut : State := (computer .running .watch up).setWords 33 [1#32, 256#32, 3#32, 512#32, 3#32]

theorem witness_AttachAndDetachAreTaken :
    up.psq.hostReset = true ∧ laidOut.resetting = none ∧ laidOut.psq.hostReset = false ∧ laidOut.attachVerdict = .ok
    ∧ laidOut.rpu.holding = [] ∧ laidOut.rpu.discards = 0
    ∧ (laidOut.setWord 33 2#32).attachVerdict = .rev ∧ (laidOut.setWord 35 4#32).attachVerdict = .orderSize
    ∧ (laidOut.setWord 37 2#32).attachVerdict = .reportSize ∧ (laidOut.setWord 34 255#32).attachVerdict = .orderPlace
    ∧ (laidOut.setWord 36 2040#32).attachVerdict = .reportPlace ∧ (laidOut.setWord 36 272#32).attachVerdict = .overlap
    ∧ live.exc.state = .attached ∧ up.exc.state = .detached := by decide +kernel

theorem witness_QueueIndicesAreChecked :
    live.exc.state = .attached
    ∧ ¬ (live.exc.layout.orderMask + 1 < (4#16 - live.exc.readIndex).toNat)
    ∧ live.exc.layout.orderMask + 1 < (5#16 - live.exc.readIndex).toNat
    ∧ ¬ (live.exc.layout.reportMask + 1 < (live.rpu.writeIndex - 65532#16).toNat)
    ∧ live.exc.layout.reportMask + 1 < (live.rpu.writeIndex - 65531#16).toNat
    ∧ (live.mem.word 38).extractLsb' 0 16 = 0#16 ∧ (live.mem.word 39).extractLsb' 0 16 = 0#16
    ∧ live.rpu.holding = [] ∧ live.rpu.discards = 0 ∧ live.rpu.view = some ⟨512, 3⟩ := by decide +kernel

theorem running_noOwnerWaits (s : State) (h : s.psq.held = none) (d : s.psq.delay = .stopped) : s.noOwnerWaits :=
  ⟨h, fun n e => by rw [d] at e; cases e⟩

/-- A queue that holds one NO_OP, and one that holds an order of code 15. -/
theorem witness_IntakeTriggersAnswerAnOrder :
    (∀ r ∈ [order 1 0 0 0 0, order 15 0 0 0 0],
      (offering r live).resetting = none ∧ (offering r live).exc.state = .attached ∧ (offering r live).exc.inHand = none
      ∧ (offering r live).exc.readIndex + 1 = (offering r live).orderWrite
      ∧ (offering r live).recordAt (offering r live).orderSlot = r ∧ (offering r live).orderSlot = 256 ∧ r.void = false
      ∧ (offering r live).psq.held = none ∧ (offering r live).psq.delay = .stopped)
    ∧ (order 1 0 0 0 0).code = 1 ∧ (order 1 0 0 0 0).operands.all (· == 0#32) = true ∧ (order 15 0 0 0 0).code = 15
    ∧ (offering (order 1 0 0 0 0) live).exc.readIndex ≠ (offering (order 1 0 0 0 0) live).orderWrite
    ∧ live.rpu.holding = [] ∧ live.rpu.discards = 0
    ∧ live.exc.poll = some 0 ∧ 0 + 50000 ≤ live.clock + 50000 ∧ live.exc.readIndex = live.orderWrite := by decide +kernel

/-- Four reports held. -/
def holdingFour : State :=
  { live with rpu := { live.rpu with holding := (List.range 4).map fun i => keyEvent .boot 0 (i + 1), created := 4#32 } }

/-- Six reports held and one discarded: more than a queue of 4 takes. -/
def holdingSix : State :=
  { holdingFour with rpu := { holdingFour.rpu with holding := (List.range 6).map fun i => keyEvent .boot 0 (i + 1), discards := 1 } }

theorem witness_PollDrainsTheHoldingList :
    (∀ s ∈ [holdingFour, holdingSix],
      s.resetting = none ∧ s.exc.poll = some 0 ∧ 0 + 50000 ≤ s.clock + 50000 ∧ s.exc.state = .attached
      ∧ s.exc.readIndex = s.orderWrite ∧ s.rpu.view = some ⟨512, 3⟩)
    ∧ holdingFour.rpu.holding.length = 4 ∧ holdingSix.rpu.holding.length = 6 ∧ holdingSix.rpu.discards = 1
    ∧ up.exc.state = .detached ∧ up.rpu.view = none := by decide +kernel

theorem witness_smallest_queue : QueueView.ok { base := 512, mask := 3 } := by unfold QueueView.ok; decide

/-- After a drain of three reports, OVERFLOW takes the fourth place. -/
theorem test_overflow :
    let s := { holdingSix with rpu := { holdingSix.rpu with holding := holdingSix.rpu.holding.take 3 } }
    (after s (.intakePollTimerExpiry ⟨50000, .toAnswer⟩)).rpu.writeIndex = 4#16
    ∧ (after s (.intakePollTimerExpiry ⟨50000, .toAnswer⟩)).rpu.discards = 0
    ∧ (after s (.intakePollTimerExpiry ⟨50000, .toAnswer⟩)).mem.word 525 = 1#32 := by decide +kernel

/-- A detached part with a full holding list: a REPEAT key, and a watch armed by an order with a grace. -/
def full (s : State) : State := { s with rpu := { s.rpu with holding := List.replicate 16 (keyEvent .boot 0 1) } }

theorem witness_FullHoldingListGivesUpKeyEvents :
    (List.replicate 16 (keyEvent .boot 0 1)).length = 16 ∧ (keyEvent .keyRepeat 0 2).kind = .keyRepeat
    ∧ (∀ y ∈ List.replicate 16 (keyEvent .boot 0 1), y.kind ≠ .keyRepeat ∧ y.kind ≠ .keyDown)
    ∧ (List.replicate 15 (keyEvent .boot 0 1) ++ keyEvent .keyRepeat 0 2 :: []).length = 16
    ∧ ([keyEvent .keyDown 5 1] ++ keyEvent .keyDown 3 2 :: ([] ++ keyEvent .keyUp 3 4 :: List.replicate 13 (keyEvent .boot 0 1))).length
      = 16
    ∧ (keyEvent .keyUp 3 4).source = (keyEvent .keyDown 3 2).source ∧ (keyEvent .keyUp 3 4).source ≠ (keyEvent .keyDown 5 1).source
    ∧ (full up).rpu.holding.length = 16 ∧ (full up).rpu.view = none := by decide +kernel

/-- An unmatched KEY_DOWN before the oldest pair stays, the pair goes (R185). -/
theorem test_unmatched_press_stays :
    takeIn (keyEvent .keyDown 5 1 :: keyEvent .keyDown 3 2 :: keyEvent .keyUp 3 4 :: List.replicate 13 (keyEvent .boot 0 1))
        (keyEvent .boot 0 9)
      = (keyEvent .keyDown 5 1 :: (List.replicate 13 (keyEvent .boot 0 1) ++ [keyEvent .boot 0 9]), 2) := by decide +kernel

/-- A KEY_DOWN that no KEY_UP follows has no press closed. -/
theorem witness_pressNotClosed : ¬ pressClosed (keyEvent .keyDown 5 1) (List.replicate 15 (keyEvent .boot 0 1)) := by
  rintro ⟨mid, back, u, e, ku, -⟩
  have h : u ∈ List.replicate 15 (keyEvent .boot 0 1) := e ▸ List.mem_append_right mid List.mem_cons_self
  rw [List.eq_of_mem_replicate h] at ku
  cases ku

/-! ### The orders -/

theorem witness_InquiriesAndClears :
    (offering (order 1 0 0 0 0) live).offers .noOp (order 1 0 0 0 0)
    ∧ (offering (order 2 101 0 0 0) live).offers .readSetting (order 2 101 0 0 0) ∧ isKnown 101 = true
    ∧ (offering (order 2 102 0 0 0) live).offers .readSetting (order 2 102 0 0 0) ∧ isKnown 102 = false
    ∧ (offering (order 14 0 0 0 0) live).offers .resetFilter (order 14 0 0 0 0)
    ∧ (offering (order 11 0 0 0 0) live).offers .clearHistory (order 11 0 0 0 0) := by
  and_intros <;> decide +kernel

/-- A chord held since moment 0. -/
def chordHeld (s : State) : State := { s with kps := { s.kps with chord := .holding, chordTimer := some 0 } }

/-- An OPERATOR_RESTART key held since moment 0 with the service window open. -/
def operator : State :=
  let s := withKey 47 (fun k => { k with deb := true, hold := some 0 })
    (withEntry 47 (fun e => { e with routing := .both, action := .operatorRestart }) live)
  { s with kps := { s.kps with window := some 0 } }

/-- The operator's state with failures delayed, n of them on their way. -/
def delayed (n : Nat) (s : State) : State := { s with kps := { s.kps with operatorLate := true, operatorSent := n } }

/-- The operator's state with PSQ in a state. -/
def moved (st : SeqState) : State := { operator with psq := { operator.psq with state := st } }

/-- Writes of the settings that act at once, one of the chord hold with an OPERATOR_RESTART key ready under 1 s. -/
theorem settings_offered :
    (offering (order 3 72 1 0 0) live).offers .writeSetting (order 3 72 1 0 0)
    ∧ (offering (order 3 81 1 0 0) live).offers .writeSetting (order 3 81 1 0 0)
    ∧ (offering (order 3 82 1 0 0) live).offers .writeSetting (order 3 82 1 0 0)
    ∧ (offering (order 3 83 1 0 0) live).offers .writeSetting (order 3 83 1 0 0)
    ∧ (offering (order 3 85 1 0 0) live).offers .writeSetting (order 3 85 1 0 0)
    ∧ (offering (order 3 86 1 0 0) live).offers .writeSetting (order 3 86 1 0 0)
    ∧ (offering (order 3 87 1 0 0) live).offers .writeSetting (order 3 87 1 0 0)
    ∧ (offering (order 3 86 1 0 0) operator).offers .writeSetting (order 3 86 1 0 0)
    ∧ (offering (order 3 86 1 0 0) (chordHeld operator)).offers .writeSetting (order 3 86 1 0 0)
    ∧ (offering (order 3 86 1 0 0) (delayed 0 operator)).offers .writeSetting (order 3 86 1 0 0) := by
  and_intros <;> decide +kernel

theorem witness_SettingWritesAreClamped :
    (offering (order 3 6 0 0 0) live).offers .writeSetting (order 3 6 0 0 0) ∧ isKnown 6 = false
    ∧ (offering (order 3 96 16 0 0) live).offers .writeSetting (order 3 96 16 0 0) ∧ 96 ∉ [72, 81, 82, 83, 85, 86, 87]
    ∧ (∀ p : Position, (offering (order 3 86 1 0 0) live).operatorIdle 1000000 1 p)
    ∧ (∀ s ∈ [operator, chordHeld operator, delayed 0 operator], (offering (order 3 86 1 0 0) s).operatorFirst 1000000 1 47)
    ∧ operator.kps.operatorLate = false ∧ operator.psq.held = none ∧ operator.kps.window ≠ none ∧ operator.kps.chord ≠ .holding
    ∧ (delayed 0 operator).kps.operatorLate = true ∧ (chordHeld operator).kps.chord = .holding := by
  and_intros <;> decide +kernel

/-- A stuck time of 10 s written while a key has been held for 10 s masks it at once (R123); one of 11 s does not. -/
theorem test_stuck_time_written :
    let held (n : Nat) : State :=
      after (withKey 47 (fun k => { k with deb := true, hold := some 0 }) (offering (order 3 83 n 0 0) live)) (.writeSetting 10000000 .carryOut)
    ((held 10).key 47).mask = .stuck ∧ ((held 11).key 47).mask = .none := by decide +kernel

/-- The operator's key held down, the service window open, and PSQ at the settle of POWERING or in the pulse of RESTARTING. -/
def awaited (st : SeqState) (s : State) : State :=
  let s := { s with exc := { s.exc with state := .detached }, rpu := { s.rpu with view := none } }
  { s with psq := { s.psq with state := st, hostReset := true, settle := some 0, pulse := some 0 } }

theorem witness_BootingIsLeftAtOnce :
    (∀ st ∈ [SeqState.powering, .restarting], (awaited st operator).psq.state = st ∧ (awaited st operator).psq.settle = some 0
      ∧ (awaited st operator).psq.pulse = some 0 ∧ (awaited st operator).psq.pgSeen = true)
    ∧ 0 + 50000 ≤ operator.clock + 3000000 ∧ 0 + 200000 ≤ operator.clock + 3000000 ∧ operator.kps.window ≠ none
    ∧ (moved .booting).operatorReady 3000000 (operator.setting 86).toNat 47 = true
    ∧ (∀ q : Position, q < 47 → (moved .booting).operatorReady 3000000 (operator.setting 86).toNat q = false)
    ∧ (∀ q : Position, (moved .booting).operatorReady 2999999 (operator.setting 86).toNat q = false)
    ∧ (awaited .powering (delayed 0 operator)).kps.operatorLate = true := by decide +kernel

/-- R135: PSQ's entry into BOOTING lets a waiting operator restart happen, after the BOOT report. -/
theorem test_operator_at_booting :
    let t := after (awaited .powering operator) (.settleTimerExpiry 3000000)
    t.psq.state = .restarting ∧ t.hbw.history.map (fun r => (r.cause, r.seqState)) = [(.operator, .booting)]
    ∧ t.rpu.holding.map (·.kind) = [.boot] ∧ (t.key 47).done = true := by decide +kernel

/-- A store under way, its copy the defaults. -/
def storing : State :=
  let s := holding (order 4 0 0 0 0) none live
  { s with sst := { s.sst with store := .storing, copy := some defaults, since := 0 } }

/-- The stored image with one word changed. -/
def spoilt (i : Nat) : List Word := (imageOf defaults).set i ((imageOf defaults)[i]?.getD 0#32 + 1)

/-- The same store, its order detached from and to be discarded. -/
def storingDiscarded : State :=
  { storing with exc := { storing.exc with state := .detached, inHand := some { inHand (order 4 0 0 0 0) none with discard := true } } }

/-- A part attached anew while the order in hand waits to be discarded: the read index behind every order placed before (R169). -/
def reattached (s : State) : State := attached { s with exc := { s.exc with readIndex := s.orderWrite } }

theorem witness_StoreIsBegunAndEnded :
    (offering (order 4 0 0 0 0) live).offers .storeSettings (order 4 0 0 0 0)
    ∧ storing.answers (inHand (order 4 0 0 0 0) none) ∧ storing.psq.held = none ∧ storing.psq.delay = .stopped
    ∧ storing.sst.store = .storing ∧ storing.sst.copy = some defaults
    ∧ storing.sst.since + 10000 ≤ storing.clock + 10000 ∧ storing.sst.since + 400000 ≤ storing.clock + 400000
    ∧ (∀ i ∈ [0, 152], (spoilt i).length = 153 ∧ (spoilt i)[i]? ≠ (imageOf defaults)[i]?
      ∧ (spoilt i).take i = (imageOf defaults).take i)
    ∧ storingDiscarded.resetting = none ∧ storingDiscarded.exc.state = .detached
    ∧ storingDiscarded.exc.inHand.map OrderInHand.discard = some true ∧ storingDiscarded.sst.store = .storing
    ∧ storingDiscarded.psq.held = none ∧ storingDiscarded.psq.delay = .stopped
    ∧ (reattached storingDiscarded).exc.readIndex = (reattached storingDiscarded).orderWrite
    ∧ (reattached storingDiscarded).exc.state = .attached := by
  unfold State.answers entryInHostArea; and_intros <;> decide +kernel

theorem witness_DefaultsAreRestored : (offering (order 5 0 0 0 0) live).offers .restoreDefaults (order 5 0 0 0 0) := by
  and_intros <;> decide +kernel

theorem witness_SnapshotCopiesASection :
    (offering (order 6 3 1024 0 0) live).offers .snapshot (order 6 3 1024 0 0)
    ∧ (order 6 3 1984 0 0).w1.toNat ≤ 3 ∧ (order 6 3 1984 0 0).w2.toInt % 8 = 0 ∧ 1984 + 64 ≤ 2048
    ∧ (1024 + 64 ≤ 256 ∨ 256 + (3 + 1) * 8 ≤ 1024) ∧ (1024 + 64 ≤ 512 ∨ 512 + (3 + 1) * 4 ≤ 1024)
    ∧ (offering (order 6 4 1024 0 0) live).offers .snapshot (order 6 4 1024 0 0) := by
  and_intros <;> decide +kernel

theorem witness_WatchOrdersArmAndDisarm :
    (offering (order 7 0 0 2 0) live).offers .armWatch (order 7 0 0 2 0)
    ∧ (offering (order 7 1 0 1 0) live).offers .armWatch (order 7 1 0 1 0)
    ∧ (offering (order 7 0 0 0 0) (attached up)).offers .armWatch (order 7 0 0 0 0) ∧ (attached up).psq.state.up = false
    ∧ (offering (order 7 0 0 1 0) live).offers .armWatch (order 7 0 0 1 0)
    ∧ (offering (order 7 601 60 0 0) live).offers .armWatch (order 7 601 60 0 0) ∧ live.psq.state.up = true
    ∧ (offering (order 8 0 0 0 0) (attached up)).offers .disarmWatch (order 8 0 0 0 0)
    ∧ (offering (order 8 0 0 0 0) live).offers .disarmWatch (order 8 0 0 0 0) ∧ live.psq.state = .running ∧ live.kps.window = none
    ∧ (offering (order 8 0 0 0 0) { live with kps := { live.kps with window := some 0 } }).offers .disarmWatch
      (order 8 0 0 0 0) := by
  and_intros <;> decide +kernel

/-- The order in hand marked to be discarded. -/
def discarded (s : State) : State :=
  { s with exc := { s.exc with inHand := s.exc.inHand.map fun h => { h with discard := true } } }

/-- A decision held by the order in hand. -/
def held (a : Action) : State :=
  let s := holding (order 9 1 0 0 0) (some doneResult) live
  { s with psq := { s.psq with held := some a }, hbw := { s.hbw with phase := .none } }

theorem witness_RestartIsHeldUntilAnswered :
    (offering (order 9 3 0 0 0) live).offers .requestRestart (order 9 3 0 0 0)
    ∧ (offering (order 9 1 0 0 0) (attached up)).offers .requestRestart (order 9 1 0 0 0)
    ∧ (offering (order 9 1 0 0 0) live).offers .requestRestart (order 9 1 0 0 0)
    ∧ (offering (order 9 2 0 0 0) live).offers .requestRestart (order 9 2 0 0 0) ∧ live.psq.state.up = true
    ∧ (∀ a ∈ [Action.warm, .cold, .holdoff], (held a).answers (inHand (order 9 1 0 0 0) (some doneResult))
      ∧ (held a).psq.held = some a ∧ (held a).psq.state.up = true ∧ (held a).psq.delay = .stopped
      ∧ (discarded (held a)).exc.inHand.map OrderInHand.discard = some true ∧ (discarded (held a)).exc.inHand.isSome
      ∧ (discarded (held a)).psq.held = some a)
    ∧ OrderKind.ofCode (order 9 1 0 0 0).code = some .requestRestart := by
  unfold State.answers entryInHostArea; and_intros <;> decide +kernel

/-- A delay that waits for the answer. -/
def waiting (n : Nat) : State :=
  let s := holding (order 10 0 0 0 0) (some doneResult) live
  { s with psq := { s.psq with state := .shutdown, delay := .waiting n }, hbw := { s.hbw with phase := .none } }

theorem witness_StandbyDelayRunsFromTheAnswer :
    (offering (order 10 0 0 0 0) (attached up)).offers .requestStandby (order 10 0 0 0 0)
    ∧ (offering (order 10 601 0 0 0) live).offers .requestStandby (order 10 601 0 0 0)
    ∧ (∀ n ∈ [0, 1], (waiting n).answers (inHand (order 10 0 0 0 0) (some doneResult)) ∧ (waiting n).psq.held = none
      ∧ (waiting n).psq.delay = .waiting n ∧ (waiting n).psq.target = .standby
      ∧ (discarded (waiting n)).exc.inHand = some { inHand (order 10 0 0 0 0) (some doneResult) with discard := true }
      ∧ (reattached (discarded (waiting n))).exc.readIndex = (reattached (discarded (waiting n))).orderWrite)
    ∧ OrderKind.ofCode (order 10 0 0 0 0).code = some .requestStandby := by
  unfold State.answers entryInHostArea; and_intros <;> decide +kernel

theorem witness_KeymapIsLoaded :
    (offering (order 12 255 0 1 0) live).offers .loadKeymap (order 12 255 0 1 0)
    ∧ (offering (order 12 2047 47 1 0) live).offers .loadKeymap (order 12 2047 47 1 0)
    ∧ 2047 ≤ 2047 ∧ 47 ≤ 47 ∧ 47 + 1 ≤ 48 ∧ 2047 + 1 ≤ 2048
    ∧ KeyEntry.ofWord ((offering (order 12 2047 47 1 0) live).mem.word 2047)
      = some { code := 0, cls := .normal, chord := false, routing := .report, action := .none }
    ∧ KeyEntry.ofWord (((offering (order 12 2047 47 1 0) live).setWord 2047 0x4000#32).mem.word 2047) = none
    ∧ live.kps.chord ≠ .fired ∧ live.isMember 0 ∧ live.isMember 5 ∧ (∀ p : Position, 47 ≤ p.val → ¬ live.isMember p)
    ∧ ({ live with kps := { live.kps with chord := .fired } } : State).kps.chord = .fired := by
  and_intros <;> decide +kernel

/-- A key map load that takes both chord members out of the entries lets a fired chord go (R142, R146). -/
theorem test_chord_let_go :
    (after (offering (order 12 1024 0 6 0) { live with kps := { live.kps with chord := .fired, chordTimer := none } })
      (.loadKeymap 0 .carryOut)).kps.chord = .idle := by decide +kernel

/-- A key masked STUCK while it is held, and a chord member so, the other member held unmasked. -/
def maskedDown : State := withKey 47 (fun k => { k with deb := true, mask := .stuck }) live
def maskedMember : State :=
  let s := withKey 0 (fun k => { k with deb := true }) (withKey 5 (fun k => { k with deb := true, mask := .stuck }) live)
  { s with kps := { s.kps with chord := .holding, chordTimer := some 0 } }

theorem witness_KeysAreUnmasked :
    (offering (order 13 48 0 0 0) live).offers .unmaskKey (order 13 48 0 0 0)
    ∧ (offering (order 13 255 0 0 0) live).offers .unmaskKey (order 13 255 0 0 0)
    ∧ (offering (order 13 47 0 0 0) (withKey 47 (fun k => { k with mask := .chatter }) live)).offers .unmaskKey (order 13 47 0 0 0)
    ∧ (live.entry 47).used = true ∧ (live.key 47).deb = false
    ∧ (offering (order 13 47 0 0 0) maskedDown).offers .unmaskKey (order 13 47 0 0 0) ∧ (maskedDown.key 47).mask ≠ .none
    ∧ (maskedDown.key 47).deb = true
    ∧ ((withEntry 47 (fun e => { e with routing := .localOnly, action := .lampTest }) maskedDown).entry 47).routing = .localOnly
    ∧ (maskedDown.entry 47).routing ≠ .localOnly ∧ ¬ maskedDown.isMember 47 ∧ maskedMember.isMember 5
    ∧ (offering (order 13 5 0 0 0) maskedMember).offers .unmaskKey (order 13 5 0 0 0) ∧ maskedMember.kps.chord ≠ .fired := by
  and_intros <;> decide +kernel

/-- A key unmasked while it is DOWN counts as pressed anew (R139), and a member that comes back starts the hold anew (R140). -/
theorem test_fresh_press :
    ((after (offering (order 13 47 0 0 0) maskedDown) (.unmaskKey 0 .carryOut)).rpu.writeIndex = 2#16)
    ∧ (after (offering (order 13 5 0 0 0) maskedMember) (.unmaskKey 7 .carryOut)).kps.chordTimer = some 7 := by decide +kernel

/-- An order with VOID set, and a NO_OP with an operand set. -/
theorem witness_OrdersAreCheckedFirst :
    (order 0x10001 0 0 0 0).void = true ∧ OrderKind.ofCode (order 0x10001 0 0 0 0).code = some .noOp
    ∧ (order 1 1 0 0 0).void = false ∧ (order 1 1 0 0 0).unusedClear .noOp = false
    ∧ (∀ r ∈ [order 0x10001 0 0 0 0, order 1 1 0 0 0],
      (offering r live).exc.state = .attached ∧ (offering r live).exc.inHand = none
      ∧ (offering r live).exc.readIndex ≠ (offering r live).orderWrite
      ∧ (offering r live).recordAt (offering r live).orderSlot = r) := by decide +kernel

/-- An order in hand whose outcome is to be discarded. -/
def discarding : State := { up with exc := { up.exc with inHand := some { inHand (order 1 0 0 0 0) (some doneResult) with discard := true } } }

theorem witness_CompletionsAreWrittenOrDiscarded :
    (holding (order 1 0 0 0 0) (some doneResult) live).answers (inHand (order 1 0 0 0 0) (some doneResult))
    ∧ (holding (order 1 0 0 0 0) (some doneResult) live).psq.held = none
    ∧ (holding (order 1 0 0 0 0) (some doneResult) live).psq.delay = .stopped
    ∧ OrderKind.ofCode (order 1 0 0 0 0).code = some .noOp
    ∧ discarding.exc.state = .detached ∧ discarding.exc.inHand.map OrderInHand.discard = some true
    ∧ discarding.psq.held = none ∧ discarding.psq.delay = .stopped
    ∧ (reattached discarding).exc.readIndex = (reattached discarding).orderWrite
    ∧ (attached (offering (order 1 0 0 0 0) discarding)).exc.state = .attached
    ∧ (attached (offering (order 1 0 0 0 0) discarding)).exc.readIndex ≠ (offering (order 1 0 0 0 0) discarding).orderWrite
    ∧ (attached (offering (order 1 0 0 0 0) discarding)).recordAt 256 = order 1 0 0 0 0
    ∧ (attached (offering (order 1 0 0 0 0) discarding)).orderSlot = 256
    ∧ (offering (order 1 0 0 0 0) live).offers .noOp (order 1 0 0 0 0) ∧ up.exc.state = .detached
    ∧ OrderKind.ofCode (order 15 0 0 0 0).code = none := by
  unfold State.answers entryInHostArea; and_intros <;> decide +kernel

/-- An order of unknown code in hand, a NO_OP in the entry after it. -/
def followed : State :=
  let s := (holding (order 15 0 0 0 0) (some { outcome := .unknown, value := 0#32, detail := 0#32 }) live).setWord 38 2#32
  s.setWord 264 1#32

theorem witness_ACompletionTakesTheNext :
    followed.resetting = none ∧ followed.exc.state = .attached ∧ followed.exc.readIndex + 1 ≠ followed.orderWrite
    ∧ 264 = followed.exc.layout.orderBase + ((followed.exc.readIndex + 1).toNat &&& followed.exc.layout.orderMask) * 8
    ∧ followed.recordAt 264 = order 1 0 0 0 0 ∧ 256 + 8 ≤ 264 ∧ (OrderKind.ofCode 15).getD .noOp = .noOp
    ∧ followed.psq.held = none ∧ followed.psq.delay = .stopped
    ∧ (after followed (.noOp 0 (.complete .toTake))).exc.inHand.map OrderInHand.entry = some 264 := by decide +kernel

/-! ### The keypad -/

/-- The keypad in ACTIVE, its next scan due. -/
def active : State := { up with kps := { up.kps with mode := .active } }

theorem witness_SlowScansAndKeypadTimers :
    up.resetting = none ∧ up.kps.mode = .slow ∧ up.kps.nextScan = some 0 ∧ 0 ≤ up.clock + 0 ∧ up.readsDown 1#48 0
    ∧ (∀ p : Position, ¬ up.readsDown 0#48 p) ∧ up.psq.state.up = false ∧ up.kps.activity = none
    ∧ (∀ p : Position, (up.entry p).used = true → (up.key p).raw = false ∧ (up.key p).deb = false)
    ∧ live.kps.mode = .slow ∧ live.kps.nextScan = some 0 ∧ live.psq.state.up = true ∧ (∀ p : Position, ¬ live.readsDown 0#48 p)
    ∧ ({ up with kps := { up.kps with activity := some 0 } } : State).kps.activity = some 0 ∧ 0 + 2000000 ≤ up.clock + 2000000
    ∧ up.kps.chatterWindow = some 0 ∧ 0 + 1000000 ≤ up.clock + 1000000
    ∧ 0 + (up.setting 87).toNat * 1000000 ≤ up.clock + 60000000 := by
  unfold State.readsDown; decide +kernel

theorem witness_ActiveScansDebounce :
    active.resetting = none ∧ active.kps.mode = .active ∧ active.kps.nextScan = some 0 ∧ 0 ≤ active.clock + 0
    ∧ (active.entry 47).used = true
    ∧ ((withEntry 47 (fun e => { e with code := 0 }) active).entry 47).used = false := by decide +kernel

/-- Both chord members DOWN: HOLDING begins at a scan (R140); with one UP a hold ends (R142). -/
theorem test_chord_at_a_scan :
    let both := withKey 0 (fun k => { k with deb := true }) (withKey 5 (fun k => { k with deb := true }) active)
    let one := withKey 0 (fun k => { k with deb := true }) active
    (after both (.activeScan 0 33#48)).kps.chord = .holding
    ∧ (after { one with kps := { one.kps with chord := .holding, chordTimer := some 0 } } (.activeScan 0 1#48)).kps.chord = .idle := by
  decide +kernel

/-- Key 47 one scan before a change of its debounced state. -/
def changing (down : Bool) (m : Mask) (n : Nat) : State :=
  withKey 47 (fun k => { k with raw := !down, deb := !down, count := 3, mask := m, transitions := n }) active

/-- A lone key DOWN is held by no rectangle. -/
theorem lone_key_not_held (s : State) : ¬ s.heldByGhost 0x800000000000#48 47 := by
  rintro ⟨-, -, q, _, _, h, -, -, -, -, -, hq, -⟩
  have only : ∀ p : Position, (0x800000000000#48).getLsbD p.val = true → p = 47 := by decide +kernel
  exact h (by rw [only q hq.2])

/-- No key DOWN is held by no rectangle. -/
theorem no_key_held (s : State) : ¬ s.heldByGhost 0#48 47 := by
  rintro ⟨-, ⟨-, h⟩, -⟩
  exact absurd h (by decide)

theorem witness_TransitionsAreReported :
    (∀ m ∈ [Mask.none, .stuck, .chatter], ∀ n ∈ [19, 20],
      (changing true m n).kps.mode = .active ∧ ((changing true m n).entry 47).used = true
      ∧ (0x800000000000#48).getLsbD 47 = true ∧ ((changing true m n).key 47).deb = false
      ∧ ((changing true m n).key 47).mustUp = false
      ∧ ((changing true m n).setting 80).toNat ≤ ((changing true m n).key 47).count + 1
      ∧ (∀ q : Position, q ≠ 47 → (0x800000000000#48).getLsbD q.val = ((changing true m n).key q).deb)
      ∧ ((changing false m n).key 47).deb = true
      ∧ (∀ q : Position, q ≠ 47 → (0#48).getLsbD q.val = ((changing false m n).key q).deb))
    ∧ ¬ (active.setting 84 < ((min 255 (19 + 1) : Nat) : Int)) ∧ active.setting 84 < ((min 255 (20 + 1) : Nat) : Int) := by
  decide +kernel

/-- A REPEAT key held since moment 0. -/
def repeating (r : Timer) (n : Nat) : State :=
  withKey 47 (fun k => { k with deb := true, hold := some 0, repeatTimer := r, repeatNo := n })
    (withEntry 47 (fun e => { e with cls := .repeating }) up)

/-- A CHATTER key that has been quiet since moment 0. -/
def quietKey (s : State) : State := withKey 47 (fun k => { k with mask := .chatter, quiet := some 0 }) s

/-- R139: SHUTDOWN's end finds a key quiet for a tenth of 300 s and releases it at once; 1 µs earlier it does not. -/
theorem test_quiet_at_standby :
    let ends (dt : Nat) : State := after (quietKey shutdown) (.delayTimerExpiry dt)
    ((ends 30000000).key 47).mask = .none ∧ ((ends 29999999).key 47).mask = .chatter
    ∧ (ends 30000000).rpu.holding.map (fun r => (r.kind, r.detail)) = [(.keyUnmasked, 1)] := by decide +kernel

theorem witness_KeyTimersAct :
    ((repeating none 0).entry 47).used = true ∧ ((repeating none 0).entry 47).cls = .repeating
    ∧ ((repeating none 0).entry 47).routing ≠ .localOnly ∧ ((repeating none 0).key 47).mask = .none
    ∧ ((repeating none 0).key 47).repeatNo = 0 ∧ ((repeating none 0).key 47).repeatTimer = none
    ∧ ((repeating none 0).key 47).hold = some 0 ∧ 0 + (up.setting 81).toNat * 1000 ≤ up.clock + 500000
    ∧ ((repeating (some 0) 255).key 47).repeatTimer = some 0 ∧ 0 + (up.setting 82).toNat * 1000 ≤ up.clock + 100000
    ∧ 0 + (up.setting 83).toNat * 1000000 ≤ up.clock + 60000000
    ∧ ((quietKey up).key 47).mask = .chatter ∧ ((quietKey up).key 47).deb = false ∧ ((quietKey up).key 47).quiet = some 0
    ∧ (quietKey up).psq.state = .standby ∧ 0 + (up.setting 85).toNat * 100000 ≤ up.clock + 30000000
    ∧ ¬ (quietKey up).isMember 47
    ∧ (let s := withKey 5 (fun k => { k with deb := true, hold := some 0 }) up
      s.isMember 5 ∧ s.kps.chord ≠ .fired ∧ (s.key 5).mask = .none ∧ (s.key 5).hold = some 0)
    ∧ (quietKey live).psq.state = .running ∧ 0 + (live.setting 85).toNat * 1000000 ≤ live.clock + 300000000 := by decide +kernel

theorem witness_ChordOpensTheWindow :
    (chordHeld up).kps.chord = .holding ∧ (chordHeld up).kps.chordTimer = some 0
    ∧ 0 + ((chordHeld up).setting 86).toNat * 1000000 ≤ up.clock + 3000000
    ∧ (∀ p : Position, ((chordHeld up).entry p).action ≠ .operatorRestart)
    ∧ (chordHeld (quietKey (holdoff 0))).psq.state = .holdoff ∧ (chordHeld (quietKey (holdoff 0))).psq.reason = .escalation
    ∧ (chordHeld live).psq.state ≠ .standby ∧ (chordHeld live).psq.state ≠ .holdoff
    ∧ (∀ p : Position, (chordHeld up).operatorIdle 3000000 3 p ∧ ((chordHeld up).key p).mask ≠ .chatter)
    ∧ (chordHeld operator).operatorFirst 3000000 3 47 ∧ (chordHeld operator).resetting = none
    ∧ (chordHeld operator).kps.chordTimer = some 0 ∧ 0 + ((chordHeld operator).setting 86).toNat * 1000000 ≤ operator.clock + 3000000
    ∧ (chordHeld operator).kps.operatorLate = false ∧ (chordHeld operator).psq.held = none := by
  decide +kernel

/-- R141: SERVICE, then KEY_UNMASKED and KEY_DOWN of a CHATTER key that is DOWN; in STANDBY the chord does not wake PSQ (R70). -/
theorem test_fire_reports :
    let t := after (chordHeld (withKey 47 (fun k => { k with mask := .chatter, deb := true }) up)) (.chordFire 3000000)
    (t.rpu.holding.map fun r => (r.kind, r.detail)) = [(.service, 0), (.keyUnmasked, 3), (.keyDown, 1)]
    ∧ t.psq.state = .standby := by decide +kernel

theorem witness_OperatorRestartsTheComputer :
    operator.resetting = none ∧ (operator.entry 47).used = true ∧ (operator.entry 47).action = .operatorRestart
    ∧ (operator.entry 47).routing ≠ .report ∧ (operator.key 47).mask = .none ∧ (operator.key 47).hold = some 0
    ∧ 0 + (operator.setting 86).toNat * 1000000 ≤ operator.clock + 3000000 ∧ operator.kps.window ≠ none
    ∧ operator.psq.state.up = true ∧ (operator.key 47).done = false ∧ operator.psq.held = none
    ∧ (∀ a ∈ [Action.warm, .cold], ({ operator with psq := { operator.psq with held := some a } } : State).psq.held = some a)
    ∧ (live.entry 47).action ≠ .operatorRestart ∧ operator.clock + 2999999 < 0 + (operator.setting 86).toNat * 1000000
    ∧ operator.kps.operatorLate = false ∧ operator.kps.operatorSent = 0 ∧ (delayed 0 operator).kps.operatorLate = true
    ∧ (∀ n ∈ [0, 1], (delayed (n + 1) operator).resetting = none ∧ (delayed (n + 1) operator).kps.operatorSent = n + 1
      ∧ (delayed (n + 1) operator).psq.state.up = true ∧ (delayed (n + 1) operator).psq.held = none)
    ∧ (∀ st ∈ [SeqState.standby, .heating, .cycling, .shutdown, .holdoff, .restarting],
      (delayed 1 (moved st)).psq.state = st ∧ (delayed 1 (moved st)).resetting = none ∧ (delayed 1 (moved st)).psq.held = none) := by
  decide +kernel

/-- R115: an operator restart that fires in WARNED and reaches HBW after the grace timer's decision has put PSQ in RESTARTING is
recorded, and restarts the reset pulse. -/
theorem test_operator_after_watch :
    let warned : State :=
      { operator with
        psq := { operator.psq with state := .warned }
        hbw := { operator.hbw with phase := .grace, grace := some { start := 0, length := 3000100 } } }
    let sent := after (after warned (.operatorRestart ⟨0, .delay⟩ 0)) (.operatorRestart ⟨3000000, .fire⟩ 47)
    let failed := after sent (.graceTimerExpiry ⟨100, none⟩)
    let t := after failed (.operatorRestart ⟨50, .arrive⟩ 0)
    sent.psq.state = .warned ∧ failed.psq.state = .restarting
    ∧ failed.hbw.history.map (·.cause) = [.watchExpired] ∧ failed.psq.pulse = some (failed.clock)
    ∧ t.psq.state = .restarting ∧ t.psq.pulse = some (failed.clock + 50)
    ∧ t.hbw.history.map (·.cause) = [.watchExpired, .operator] := by decide +kernel

/-! ### The lamps -/

/-- The roles POWER and HEAT named on lamp 0, FAN on none. -/
def contested : State := (up.placeSetting 97 0).placeSetting 101 255

theorem witness_FramesComposeTheLamps :
    up.resetting = none ∧ up.ind.frame = some 0 ∧ 0 + 20000 ≤ up.clock + 20000 ∧ up.ind.lampTest = none
    ∧ (contested.setting 96).toNat = 0 ∧ (contested.setting 97).toNat = 0 ∧ (contested.setting 101).toNat = 255
    ∧ ([Role.power, .alarm, .fan, .filter, .service, .heat] : List Role) = [] ++ .power :: [.alarm, .fan, .filter, .service, .heat]
    ∧ (∀ n ∈ [96, 97, 98, 99, 100, 101], (up.setting n).toNat ≠ 15) ∧ live.exc.state = .attached ∧ up.exc.state = .detached
    ∧ ({ up with ind := { up.ind with lampTest := some 0 } } : State).ind.lampTest ≠ none := by decide +kernel

theorem witness_GroupSlotsLightTheLamps :
    up.ind.frame = some 0 ∧ up.ind.nextSlot = (0 : Fin 4).val ∧ 0 + 0 * 5000 ≤ up.clock + 0 ∧ up.ind.blink = some 0
    ∧ ({ up with ind := { up.ind with nextSlot := 3 } } : State).ind.nextSlot = (3 : Fin 4).val ∧ 0 + 3 * 5000 ≤ up.clock + 15000
    ∧ ({ up with ind := { up.ind with lampTest := some 0 } } : State).ind.lampTest = some 0
    ∧ 0 + 2000000 ≤ up.clock + 2000000 := by decide +kernel

/-! ### The invariants -/

/-- The premises of the invariants' statements: a state that meets them and steps. -/
theorem witness_invariants :
    WindowOk up ∧ SettingsOk up ∧ (∃ t, step (up.enqueueFront (.uptimeTick 10000)) = .next t) := by
  refine ⟨?_, ?_, ⟨after up (.uptimeTick 10000), rfl⟩⟩
  · unfold WindowOk; decide +kernel
  · unfold SettingsOk TableOk; decide +kernel

/-- The supervision half of a heating part that steps. -/
theorem witness_supervision :
    SupervisionOk (heating.enqueueFront (.uptimeTick 10000)) ∧ ∃ t, step (heating.enqueueFront (.uptimeTick 10000)) = .next t :=
  ⟨heating_supervised, after heating (.uptimeTick 10000), rfl⟩

/-- The exchange of an attached part. -/
theorem witness_exchange : ExchangeOk (live.enqueueFront (.uptimeTick 10000)) := by
  refine ⟨by decide +kernel, by decide +kernel, ?_, by decide +kernel, by decide +kernel, by decide +kernel, by decide +kernel⟩
  intro h e; cases e

/-- A part after its reset's end, the load still to come. -/
def begun : State := after State.reset (.resetEnd 10000)

/-- The anchor of such a part, whose supervision half and exchange are in order. -/
theorem witness_anchor : SupervisionOk begun ∧ ExchangeOk begun ∧ AnchorOk begun ∧ begun.resetting = none := by
  refine ⟨⟨by decide +kernel, by decide +kernel, by decide +kernel, ?_, by decide +kernel, fun h => absurd h (by decide +kernel)⟩,
    ⟨by decide +kernel, by decide +kernel, ?_, by decide +kernel, by decide +kernel, by decide +kernel, by decide +kernel⟩,
    ⟨by decide +kernel, fun _ => by decide +kernel, by decide +kernel⟩, by decide +kernel⟩
  · intro h; exact absurd h (by decide +kernel)
  · have n : begun.exc.inHand = none := by decide +kernel
    intro h e
    rw [n] at e
    cases e

/-- A commit of ATTACH to a part whose computer is in reset raises the attach count that anchor word 5 shows (R166). -/
theorem test_attach_count : (after begun (.attach 0)).mem.word 5 = (after begun (.attach 0)).exc.attachCount.setWidth 32 := by
  decide +kernel

/-- The climate half of a part that has started. -/
theorem witness_climate : ClimateOk (up.enqueueFront (.uptimeTick 10000)) := by
  unfold ClimateOk ChannelOk ZoneOk LoadOk FanOk inMeasuredRange; decide +kernel

end Sys2Proof.Tests
end

section
/-! PROOFS. The supply budget (O14, O15), first part: what `Allocator.allocate` does with six requests, whatever they are. The
class pass (R34, R35) is solved in closed form, from which the grants' closed form and their bounds follow. -/

namespace Sys2Proof.SupplyBudget

open Sys2Proof Sys2Proof.Machine

variable {q : Vector LoadRequest 6} {a : Nat}

/-! ## Sums over the classes -/

/-- The request power of a load (R32). -/
def loadPower (l : LoadRequest) : Nat := requestPower l.rating l.duty

/-- The sum of `f` over the requests whose class passes a test. -/
def sumOver (f : LoadRequest → Nat) (p : Nat → Bool) (q : Vector LoadRequest 6) : Nat :=
  (q.toList.map fun l => if p l.cls then f l else 0).sum

/-- The request power of the classes below `c` (R34). -/
def below (q : Vector LoadRequest 6) (c : Nat) : Nat := sumOver loadPower (fun k => decide (k < c)) q

theorem sumOver_le {f g : LoadRequest → Nat} {p r : Nat → Bool}
    (h : ∀ l ∈ q.toList, (if p l.cls then f l else 0) ≤ (if r l.cls then g l else 0)) : sumOver f p q ≤ sumOver g r q :=
  List.sum_le_sum h

theorem sumOver_mono {f : LoadRequest → Nat} {p r : Nat → Bool} (h : ∀ k, p k = true → r k = true) :
    sumOver f p q ≤ sumOver f r q := by
  refine sumOver_le fun l _ => ?_
  by_cases hp : p l.cls = true
  · simp [hp, h _ hp]
  · simp [hp]

theorem sumOver_lt_succ (f : LoadRequest → Nat) (c : Nat) :
    sumOver f (fun k => decide (k < c + 1)) q
      = sumOver f (fun k => decide (k < c)) q + sumOver f (fun k => decide (k = c)) q := by
  unfold sumOver
  rw [← List.sum_map_add]
  congr 1
  refine List.map_congr_left fun l _ => ?_
  rcases Nat.lt_trichotomy l.cls c with h | h | h
  · simp [h, show l.cls < c + 1 by omega, show l.cls ≠ c by omega]
  · simp [h]
  · simp [show ¬ l.cls < c by omega, show ¬ l.cls < c + 1 by omega, show l.cls ≠ c by omega]

theorem sumOver_zero {f : LoadRequest → Nat} {p : Nat → Bool} (h : ∀ l ∈ q.toList, p l.cls = true → f l = 0) :
    sumOver f p q = 0 := by
  unfold sumOver
  refine List.sum_eq_zero fun x hx => ?_
  obtain ⟨l, hl, rfl⟩ := List.mem_map.1 hx
  by_cases hp : p l.cls = true
  · simp [hp, h l hl hp]
  · simp [hp]

/-- Shares that are rounded down add up to no more than what is shared. -/
theorem sumOver_share_le (f : LoadRequest → Nat) (p : Nat → Bool) (r t : Nat) :
    sumOver (fun l => f l * r / t) p q ≤ sumOver f p q * r / t := by
  unfold sumOver
  induction q.toList with
  | nil => simp
  | cons l ls ih =>
    have hadd := (Nat.add_le_add_left ih (f l * r / t)).trans Nat.div_add_div_le_add_div
    rw [← Nat.add_mul] at hadd
    by_cases hp : p l.cls = true
    · simpa [hp] using hadd
    · simpa [hp] using ih

theorem classTotal_eq (c : Nat) : classTotal q c = sumOver loadPower (fun k => decide (k = c)) q := by
  simp [classTotal, sumOver, loadPower]

theorem loadPower_le_classTotal {l : LoadRequest} (h : l ∈ q.toList) : loadPower l ≤ classTotal q l.cls := by
  unfold classTotal
  refine List.single_le_sum (fun _ _ => Nat.zero_le _) _ (List.mem_map.2 ⟨l, h, ?_⟩)
  simp [loadPower]

@[simp] theorem below_zero : below q 0 = 0 := sumOver_zero fun l _ h => by simp at h

theorem below_succ (c : Nat) : below q (c + 1) = below q c + classTotal q c := by
  rw [classTotal_eq]; exact sumOver_lt_succ loadPower c

theorem below_mono {c d : Nat} (h : c ≤ d) : below q c ≤ below q d :=
  sumOver_mono fun k hk => by simp only [decide_eq_true_eq] at hk ⊢; omega

/-! ## The class pass in closed form -/

/-- While the classes passed have had their power, nothing is short and the rest of the power remains. -/
theorem passBefore_of_below_le {c : Nat} (h : below q c ≤ a) :
    passBefore q a c = { remaining := a - below q c, short := none } := by
  induction c with
  | zero => simp [passBefore]
  | succ c ih =>
    rw [below_succ] at h ⊢
    have ih := ih (by omega)
    by_cases ht : classTotal q c = 0
    · simp [passBefore, PassState.after, PassState.serve, ih, ht]
    · have hfit : classTotal q c ≤ a - below q c := by omega
      simp [passBefore, PassState.after, PassState.serve, ih, ht, hfit, Nat.sub_add_eq]

/-- After the first class that does not have its power, nothing remains and that class is the short one. -/
theorem passBefore_of_short {c k : Nat} (hk : below q k ≤ a) (hs : a < below q (k + 1)) (hc : k < c) :
    passBefore q a c = { remaining := 0, short := some k } := by
  induction c, hc using Nat.le_induction with
  | base =>
    rw [below_succ] at hs
    have ht : classTotal q k ≠ 0 := by omega
    have hfit : ¬ classTotal q k ≤ a - below q k := by omega
    simp [passBefore, PassState.after, PassState.serve, passBefore_of_below_le hk, ht, hfit]
  | succ c _ ih =>
    by_cases ht : classTotal q c = 0
    · simp [passBefore, PassState.after, PassState.serve, ih, ht]
    · simp [passBefore, PassState.after, PassState.serve, ih, ht]

/-- Where the classes below `c` do not have their power, one of them is the first that has not. -/
theorem exists_short {c : Nat} (h : a < below q c) : ∃ k < c, below q k ≤ a ∧ a < below q (k + 1) := by
  induction c with
  | zero => simp at h
  | succ c ih =>
    by_cases hc : a < below q c
    · obtain ⟨k, hk, hs⟩ := ih hc
      exact ⟨k, by omega, hs⟩
    · exact ⟨c, by omega, by omega, h⟩

theorem short_eq_none {c : Nat} (h : below q c ≤ a) : (passBefore q a c).short = none := by
  rw [passBefore_of_below_le h]

theorem short_eq_some {c k : Nat} (hk : below q k ≤ a) (hs : a < below q (k + 1)) (hc : k < c) :
    (passBefore q a c).short = some k := by
  rw [passBefore_of_short hk hs hc]

/-- Class 0 is not the short one where its power is available. -/
theorem short_ne_zero {c : Nat} (h : classTotal q 0 ≤ a) : (passBefore q a c).short ≠ some 0 := by
  by_cases hc : below q c ≤ a
  · simp [short_eq_none hc]
  · obtain ⟨k, hk, hle, hlt⟩ := exists_short (Nat.lt_of_not_le hc)
    rw [short_eq_some hle hlt hk]
    rintro ⟨rfl⟩
    simp [below_succ] at hlt
    omega

/-! ## The grant of a load in closed form -/

variable {l : LoadRequest}

/-- A class that has its power is granted it in full (R34). -/
theorem grantOf_full (hl : l ∈ q.toList) (h : below q l.cls + classTotal q l.cls ≤ a) : grantOf q a l = loadPower l := by
  have hp := loadPower_le_classTotal hl
  have hpass := passBefore_of_below_le (Nat.le_of_add_right_le h)
  by_cases ht : classTotal q l.cls = 0
  · simp [grantOf, PassState.serve, ht, show loadPower l = 0 by omega]
  · have hfit : classTotal q l.cls ≤ a - below q l.cls := by omega
    simp [grantOf, PassState.serve, hpass, ht, hfit, loadPower]

/-- The first class that has not shares what is left (R35). -/
theorem grantOf_short (hk : below q l.cls ≤ a) (hs : a < below q l.cls + classTotal q l.cls) :
    grantOf q a l = loadPower l * (a - below q l.cls) / classTotal q l.cls := by
  have ht : classTotal q l.cls ≠ 0 := by omega
  have hfit : ¬ classTotal q l.cls ≤ a - below q l.cls := by omega
  simp [grantOf, PassState.serve, passBefore_of_below_le hk, ht, hfit, loadPower]

/-- The classes after it get nothing (R35). -/
theorem grantOf_starved (h : a < below q l.cls) : grantOf q a l = 0 := by
  obtain ⟨k, hk, hle, hlt⟩ := exists_short h
  by_cases ht : classTotal q l.cls = 0
  · simp [grantOf, PassState.serve, ht]
  · simp [grantOf, PassState.serve, passBefore_of_short hle hlt hk, ht]

theorem grantOf_le_loadPower (hl : l ∈ q.toList) : grantOf q a l ≤ loadPower l := by
  by_cases hb : below q l.cls ≤ a
  · by_cases hf : below q l.cls + classTotal q l.cls ≤ a
    · exact (grantOf_full hl hf).le
    · rw [grantOf_short hb (by omega)]
      refine Nat.div_le_of_le_mul ?_
      rw [Nat.mul_comm (classTotal q l.cls)]
      exact Nat.mul_le_mul_left _ (by omega)
  · rw [grantOf_starved (Nat.lt_of_not_le hb)]
    exact Nat.zero_le _

/-! ## The total granted -/

/-- A short class is granted no more than what is left (R35). -/
theorem classGrant_short {c : Nat} (hk : below q c ≤ a) (hs : a < below q c + classTotal q c) :
    sumOver (grantOf q a) (fun k => decide (k = c)) q ≤ a - below q c := by
  have hshare : sumOver (grantOf q a) (fun k => decide (k = c)) q
      ≤ sumOver (fun l => loadPower l * (a - below q c) / classTotal q c) (fun k => decide (k = c)) q := by
    refine sumOver_le fun l _ => ?_
    by_cases hl : l.cls = c
    · subst hl; simp [grantOf_short hk hs]
    · simp [hl]
  calc sumOver (grantOf q a) (fun k => decide (k = c)) q
      ≤ sumOver loadPower (fun k => decide (k = c)) q * (a - below q c) / classTotal q c :=
        hshare.trans (sumOver_share_le _ _ _ _)
    _ = a - below q c := by rw [← classTotal_eq, Nat.mul_div_cancel_left _ (by omega)]

/-- The classes below `c` are granted no more than the available power and no more than their request power. -/
theorem grants_below_le (c : Nat) :
    sumOver (grantOf q a) (fun k => decide (k < c)) q ≤ min a (below q c) := by
  induction c with
  | zero => simp [sumOver]
  | succ c ih =>
    rw [sumOver_lt_succ, below_succ]
    by_cases hb : below q c ≤ a
    · by_cases hf : below q c + classTotal q c ≤ a
      · have hfull : sumOver (grantOf q a) (fun k => decide (k = c)) q ≤ classTotal q c := by
          rw [classTotal_eq]
          refine sumOver_le fun l hl => ?_
          split
          · exact grantOf_le_loadPower hl
          · exact Nat.le_refl 0
        omega
      · have hshort := classGrant_short hb (by omega)
        omega
    · have hnone : sumOver (grantOf q a) (fun k => decide (k = c)) q = 0 := by
        refine sumOver_zero fun l _ hl => grantOf_starved ?_
        simp only [decide_eq_true_eq] at hl
        subst hl; omega
      omega

/-- Some class is above those of all requests. -/
theorem exists_class_above (q : Vector LoadRequest 6) : ∃ c, ∀ l ∈ q.toList, l.cls < c := by
  refine ⟨(q.toList.map LoadRequest.cls).sum + 1, fun l hl => Nat.lt_succ_of_le ?_⟩
  exact List.single_le_sum (fun _ _ => Nat.zero_le _) _ (List.mem_map_of_mem hl)

/-- The grants stay within the available power (R36). -/
theorem sum_grantOf_le (q : Vector LoadRequest 6) (a : Nat) : (q.toList.map (grantOf q a)).sum ≤ a := by
  obtain ⟨c, hc⟩ := exists_class_above q
  calc (q.toList.map (grantOf q a)).sum
      ≤ sumOver (grantOf q a) (fun k => decide (k < c)) q := List.sum_le_sum fun l hl => by simp [hc l hl]
    _ ≤ a := (grants_below_le c).trans (Nat.min_le_left _ _)

/-! ## The granted duty -/

/-- A full grant gives the whole request duty (R32, R37). -/
theorem grantedDuty_full (h : 1 ≤ l.rating) : grantedDuty l (loadPower l) = l.duty := by
  refine Nat.min_eq_left ((Nat.le_div_iff_mul_le h).2 ?_)
  unfold loadPower requestPower
  rw [Nat.mul_comm l.duty]
  omega

/-- What a granted duty draws is no more than the grant (R37). -/
theorem rating_mul_grantedDuty_le (l : LoadRequest) (g : Nat) : l.rating * grantedDuty l g ≤ g * 256 :=
  (Nat.mul_le_mul_left _ (Nat.min_le_right _ _)).trans (Nat.mul_div_le _ _)

/-! ## The allocation -/

variable (b r : Nat) (ap : Bool) (la : Allocator)

theorem onEach_eq_map {α β : Type} {n : Nat} (f : α → β) (v : Vector α n) : onEach f v = v.map f := by
  ext i hi; simp [onEach]

theorem allocate_loads :
    (la.allocate q b r ap).loads = q.map (loadAfter q (availablePower b r ap)) := onEach_eq_map _ _

theorem allocate_load (i : Nat) (h : i < 6) :
    (la.allocate q b r ap).loads[i] = loadAfter q (availablePower b r ap) q[i] := by
  simp only [allocate_loads, Vector.getElem_map]

theorem allocate_loads_toList :
    (la.allocate q b r ap).loads.toList = q.toList.map (loadAfter q (availablePower b r ap)) := by
  rw [allocate_loads, Vector.toList_map]

theorem allocate_powerOf (p : Nat → Bool) : (la.allocate q b r ap).powerOf p = sumOver loadPower p q := by
  rw [Allocator.powerOf, allocate_loads_toList, List.map_map]
  rfl

theorem allocate_total_eq :
    (la.allocate q b r ap).total = (q.toList.map (grantOf q (availablePower b r ap))).sum := by
  have htotal : (la.allocate q b r ap).total = ((la.allocate q b r ap).loads.toList.map Load.grant).sum := rfl
  rw [htotal, allocate_loads_toList, List.map_map]
  rfl

theorem allocate_total_le : (la.allocate q b r ap).total ≤ availablePower b r ap := by
  rw [allocate_total_eq]; exact sum_grantOf_le q _

end Sys2Proof.SupplyBudget
end

section
/-! PROOFS. The supply budget, second part: the state that LA's allocation finds in a control period, what the allocation
leaves in it, and that nothing after it in the period, nor KPS's answer to PSQ's state, touches what it left. -/

namespace Sys2Proof.SupplyBudget

open Sys2Proof Sys2Proof.Machine Sys2Proof.Laws

/-! ## The settings that a period copies (R9, R10, R49) -/

section Applied

variable (z : Zone) (f : Fan) (n : Nat)

@[simp] theorem warmStart_applied : (z.warmStart n).1.applied = z.applied := rfl

@[simp] theorem choose_applied (own intake : Channel) : (z.choose own intake).applied = z.applied := by
  unfold Zone.choose; split <;> rfl

@[simp] theorem creditStep_applied : z.creditStep.applied = z.applied := by
  unfold Zone.creditStep; split <;> rfl

@[simp] theorem tripStep_applied (tmax : Int) (p : Bool) : (z.tripStep tmax p n).1.applied = z.applied := by
  unfold Zone.tripStep
  dsimp only
  repeat' split
  all_goals rfl

@[simp] theorem soakDone_applied : (z.soakDone n).1.applied = z.applied := by
  unfold Zone.soakDone; split <;> rfl

@[simp] theorem placeStep_applied (p : Bool) : (z.placeStep p n).1.applied = z.applied := by
  unfold Zone.placeStep
  repeat' split
  all_goals simp [Zone.heatReset]

@[simp] theorem heatStep_applied (m : Nat) : (z.heatStep m n).1.applied = z.applied := by
  unfold Zone.heatStep
  dsimp only
  repeat' split
  all_goals rfl

/-- A zone's period runs on the settings it is handed (R10). -/
theorem period_applied (i : ZoneInputs) : (z.period i n).1.applied = i.settings := by
  unfold Zone.period
  cases i.warm <;> simp [Zone.requestStep]

@[simp] theorem readStep_applied : f.readStep.applied = f.applied := by
  unfold Fan.readStep; split <;> rfl

@[simp] theorem stallStep_applied : (f.stallStep n).1.applied = f.applied := by
  unfold Fan.stallStep
  dsimp only
  repeat' split
  all_goals rfl

@[simp] theorem requestStep_applied (trip heat rail : Bool) (tf0 tf1 : Int) (e : Option Int) :
    (f.requestStep trip heat rail tf0 tf1 e).applied = f.applied := by
  unfold Fan.requestStep; split <;> rfl

@[simp] theorem clogStep_fans (rail : Bool) (a e : Option Int) (fc : FanController) :
    (fc.clogStep rail a e).1.fans = fc.fans := by
  unfold FanController.clogStep
  dsimp only
  repeat' split
  all_goals rfl

variable (s : State)

theorem zonePeriod_applied (h : n < 4) : s.zonePeriod.zc.zones[n].applied = zoneSettingsAt s.sst.table n := by
  unfold State.zonePeriod
  rw [(createReports_keeps _ _).zc rfl]
  simp [period_applied, State.zoneInputs]

theorem fanPeriod_applied (h : n < 2) : s.fanPeriod.fc.fans[n].applied = fanSettingsAt s.sst.table n := by
  simp [State.fanPeriod, onEach]

end Applied

/-! ## What an allocation reads and leaves in ZC -/

/-- Two zone controllers agree on what an allocation reads and leaves: the requests, the settings in use, the granted
duties, the heater outputs and the frame. -/
structure GrantsKept (x y : ZoneController) : Prop where
  heaterOn : y.heaterOn = x.heaterOn
  frameAt : y.frameAt = x.frameAt
  request : ∀ n : Fin 4, y.zones[n].request = x.zones[n].request
  granted : ∀ n : Fin 4, y.zones[n].granted = x.zones[n].granted
  applied : ∀ n : Fin 4, y.zones[n].applied = x.zones[n].applied

theorem GrantsKept.of_eq {x y : ZoneController} (h : y = x) : GrantsKept x y := by
  subst h; exact ⟨rfl, rfl, fun _ => rfl, fun _ => rfl, fun _ => rfl⟩

theorem zone_mainOff_kept (z : Zone) :
    z.mainOff.request = z.request ∧ z.mainOff.granted = z.granted ∧ z.mainOff.applied = z.applied := by
  unfold Zone.mainOff; split <;> exact ⟨rfl, rfl, rfl⟩

/-- The main-off event moves the zones' states, not their requests and grants (R23). -/
theorem mainOff_grantsKept (s : State) : GrantsKept s.zc s.mainOff.zc where
  heaterOn := rfl
  frameAt := rfl
  request n := by simp [State.mainOff, onEach, zone_mainOff_kept]
  granted n := by simp [State.mainOff, onEach, zone_mainOff_kept]
  applied n := by simp [State.mainOff, onEach, zone_mainOff_kept]

/-! ## PSQ's and HBW's checks of a period -/

section Checks

variable (s : State)

theorem takeDown_zc : (s.takeDown true).zc = s.mainOff.zc := by
  have h := (noticeClear_keeps (s.detach .hostRestart)).zc rfl
  rw [(detach_keeps .hostRestart s).zc rfl] at h
  simp [State.takeDown, State.mainOff, h]

theorem enterHoldoff_zc (r : HoldoffReason) : (s.enterHoldoff r).zc = s.mainOff.zc :=
  ((enter_keeps .holdoff (s.takeDown true)).zc rfl).trans (takeDown_zc s)

theorem enterHoldoff_state (r : HoldoffReason) : (s.enterHoldoff r).psq.state = .holdoff := rfl

/-- An overheat with the rail on ends as an entry into HOLDOFF from a state with ZC as it was (R85). -/
theorem overheat_enters (h : s.psq.state.railOn = true) :
    ∃ u : State, s.overheat = u.enterHoldoff .overheat ∧ u.zc = s.zc := by
  unfold State.overheat
  rw [if_pos h]
  have hrecord := (recordFailure_keeps (s.newRecord .overheat .holdoff s.psq.state (decide (s.exc.state = .attached))) s).zc rfl
  exact ⟨_, rfl, ((enter_keeps .shutdown _).zc rfl).trans hrecord⟩

theorem overheat_state (h : s.psq.state.railOn = true) : s.overheat.psq.state = .holdoff := by
  obtain ⟨u, hu, -⟩ := overheat_enters s h
  rw [hu, enterHoldoff_state]

theorem overheat_grantsKept (h : s.psq.state.railOn = true) : GrantsKept s.zc s.overheat.zc := by
  obtain ⟨u, hu, hzc⟩ := overheat_enters s h
  rw [hu, enterHoldoff_zc, ← hzc]
  exact mainOff_grantsKept u

/-- What PSQ's examination of a period can do (R71, R85, R87): complete an overheat, enter POWERING or HEATING, or nothing. -/
theorem psqPeriod_cases (c : Bool) :
    (s.psq.state.railOn = true ∧ s.psqPeriod c = s.overheat) ∨ s.psqPeriod c = s.enterPowering
      ∨ s.psqPeriod c = s.enterHeating ∨ s.psqPeriod c = s := by
  unfold State.psqPeriod
  split
  · rename_i h
    simp only [Bool.and_eq_true] at h
    exact .inl ⟨h.2, rfl⟩
  · repeat' split
    all_goals simp

theorem psqPeriod_grantsKept (c : Bool) : GrantsKept s.zc (s.psqPeriod c).zc := by
  rcases psqPeriod_cases s c with ⟨hrail, h⟩ | h | h | h <;> rw [h]
  · exact overheat_grantsKept s hrail
  · exact .of_eq ((enterPowering_keeps s).zc rfl)
  · exact .of_eq ((enterHeating_keeps s).zc rfl)
  · exact .of_eq rfl

/-- PSQ's examination does not bring the computer up: it enters none of BOOTING, RUNNING and WARNED (R71, R85, R87). -/
theorem psqPeriod_up (c : Bool) (hup : (s.psqPeriod c).psq.state.up = true) : s.psq.state.up = true := by
  rcases psqPeriod_cases s c with ⟨hrail, h⟩ | h | h | h <;> rw [h] at hup
  · rw [overheat_state s hrail] at hup; cases hup
  · cases hup
  · cases hup
  · exact hup

/-- PSQ's and HBW's checks of a period (R71, R85, R87, R111). -/
def checks (c : Bool) (s : State) : State := (s.psqPeriod c).ageHistory

theorem checks_keeps (c : Bool) :
    Keeps { psq := true, zc := true, hbw := true, exc := true, rpu := true, mem := true } s (checks c s) :=
  (psqPeriod_keeps c s).trans ((ageHistory_keeps _).mono (by decide))

theorem checks_grantsKept (c : Bool) : GrantsKept s.zc (checks c s).zc := by
  unfold checks
  rw [(ageHistory_keeps _).zc rfl]
  exact psqPeriod_grantsKept s c

theorem checks_up (c : Bool) (hup : (checks c s).psq.state.up = true) : s.psq.state.up = true := by
  unfold checks at hup
  rw [(ageHistory_keeps _).psq rfl] at hup
  exact psqPeriod_up s c hup

end Checks

/-! ## The allocation of a period -/

section Allocation

variable (s : State)

theorem loadRequests_zone (n : Fin 4) : s.loadRequests[n.val] =
    { duty := s.zc.zones[n].request, cls := s.zc.zones[n].applied.cls, rating := s.zc.zones[n].applied.rating } := by
  match n with
  | 0 => rfl
  | 1 => rfl
  | 2 => rfl
  | 3 => rfl

theorem loadRequests_fan (n : Fin 2) : s.loadRequests[n.val + 4] =
    { duty := s.fc.fans[n].request, cls := s.fc.fans[n].applied.cls, rating := s.fc.fans[n].applied.rating } := by
  match n with
  | 0 => rfl
  | 1 => rfl

/-- `t` holds LA as an allocation on the state `u` leaves it, and ZC and FC hold its granted duties (R31, R37, R38, R39). -/
structure AllocatedFrom (u t : State) : Prop where
  la : t.la = u.la.allocate u.loadRequests (u.settingNat 0) (u.settingNat 1) u.psq.state.railOn
  request : ∀ n : Fin 4, t.zc.zones[n].request = u.zc.zones[n].request
  granted : ∀ n : Fin 4, t.zc.zones[n].granted = t.la.loads[n.val].granted
  heaterOn : ∀ n : Fin 4, t.zc.heaterOn[n] = decide (0 < t.la.loads[n.val].granted)
  frameAt : t.zc.frameAt = some u.clock
  fanRequest : ∀ n : Fin 2, t.fc.fans[n].request = u.fc.fans[n].request
  fanGrant : ∀ n : Fin 2, t.fc.fans[n].grant = t.la.loads[n.val + 4].granted

theorem takeGrants_allocated (la : Allocator)
    (h : la = s.la.allocate s.loadRequests (s.settingNat 0) (s.settingNat 1) s.psq.state.railOn) :
    AllocatedFrom s (State.takeGrants { s with la := la }) where
  la := h
  request n := by simp [State.takeGrants]
  granted n := by simp [State.takeGrants]
  heaterOn n := Vector.getElem_ofFn _
  frameAt := rfl
  fanRequest n := by simp [State.takeGrants]
  fanGrant n := by simp [State.takeGrants]

/-- What an allocation left stands while LA and FC stand and ZC keeps its grants. -/
theorem AllocatedFrom.stands {u t v : State} (h : AllocatedFrom u t) (hla : v.la = t.la) (hfc : v.fc = t.fc)
    (hzc : GrantsKept t.zc v.zc) : AllocatedFrom u v where
  la := hla.trans h.la
  request n := (hzc.request n).trans (h.request n)
  granted n := by rw [hla]; exact (hzc.granted n).trans (h.granted n)
  heaterOn n := by rw [hla, hzc.heaterOn]; exact h.heaterOn n
  frameAt := hzc.frameAt.trans h.frameAt
  fanRequest n := by rw [hfc]; exact h.fanRequest n
  fanGrant n := by rw [hfc, hla]; exact h.fanGrant n

theorem AllocatedFrom.keeps {u t v : State} {b : Blocks} (h : AllocatedFrom u t) (k : Keeps b t v) (hla : b.la = false)
    (hfc : b.fc = false) (hzc : b.zc = false) : AllocatedFrom u v :=
  h.stands (k.la hla) (k.fc hfc) (.of_eq (k.zc hzc))

theorem allocation_allocated : AllocatedFrom s s.allocation :=
  (takeGrants_allocated s _ rfl).keeps (createReports_keeps _ _) rfl rfl rfl

end Allocation

/-! ## The state that the allocation finds -/

section Period

variable (ms : Vector Measurement 6) (turn : PsqTurn) (s : State)

/-- The state after SFE's and ZC's steps of a period (R1, R13, R24). -/
def climateStepped (s : State) : State := (State.measureAll ms { s with period := some s.clock }).zonePeriod.overheatDwell

/-- Whether the period completes an overheat (R25). -/
def completes (s : State) : Bool := overheatComplete s.zc.dwell (climateStepped ms s).zc.dwell

/-- The state that the allocation of a period finds (R30, R31). -/
def atAllocation (s : State) : State :=
  match turn with
  | .beforeAllocation => (checks (completes ms s) (climateStepped ms s)).fanPeriod
  | .afterAllocation => (climateStepped ms s).fanPeriod

theorem atAllocation_before :
    atAllocation ms .beforeAllocation s = (checks (completes ms s) (climateStepped ms s)).fanPeriod := rfl

theorem atAllocation_after : atAllocation ms .afterAllocation s = (climateStepped ms s).fanPeriod := rfl

theorem controlPeriod_before :
    s.controlPeriod ms .beforeAllocation = (atAllocation ms .beforeAllocation s).allocation := by
  simp only [State.controlPeriod, atAllocation, checks, completes, climateStepped]

theorem controlPeriod_after : s.controlPeriod ms .afterAllocation
    = checks (completes ms s) (atAllocation ms .afterAllocation s).allocation := by
  simp only [State.controlPeriod, atAllocation, checks, completes, climateStepped]

theorem climateStepped_keeps :
    Keeps { sfe := true, zc := true, rpu := true, mem := true, part := true } s (climateStepped ms s) :=
  ((((Keeps.refl _ s).set_period rfl _).trans ((measureAll_keeps ms _).mono (by decide))).trans
    ((zonePeriod_keeps _).mono (by decide))).trans ((overheatDwell_keeps _).mono (by decide))

theorem atAllocation_keeps :
    Keeps { sfe := true, zc := true, fc := true, psq := true, hbw := true, exc := true, rpu := true, mem := true, part := true }
      s (atAllocation ms turn s) := by
  have h : Keeps
      { sfe := true, zc := true, fc := true, psq := true, hbw := true, exc := true, rpu := true, mem := true, part := true }
      s (climateStepped ms s) := (climateStepped_keeps ms s).mono (by decide)
  cases turn with
  | beforeAllocation =>
    exact (h.trans ((checks_keeps _ _).mono (by decide))).trans ((fanPeriod_keeps _).mono (by decide))
  | afterAllocation => exact h.trans ((fanPeriod_keeps _).mono (by decide))

theorem atAllocation_psq_after : (atAllocation ms .afterAllocation s).psq = s.psq :=
  ((fanPeriod_keeps _).psq rfl).trans ((climateStepped_keeps ms s).psq rfl)

theorem climateStepped_applied (n : Fin 4) :
    (climateStepped ms s).zc.zones[n].applied = zoneSettingsAt s.sst.table n.val := by
  have hzones (u : State) : u.overheatDwell.zc.zones = u.zc.zones := rfl
  rw [climateStepped, hzones, Fin.getElem_fin, zonePeriod_applied, (measureAll_keeps ms _).sst rfl]

/-- The allocation finds the zones with the settings of the period (R10). -/
theorem atAllocation_zone_applied (n : Fin 4) :
    (atAllocation ms turn s).zc.zones[n].applied = zoneSettingsAt s.sst.table n.val := by
  rw [← climateStepped_applied ms s n]
  cases turn with
  | beforeAllocation =>
    rw [atAllocation_before, (fanPeriod_keeps _).zc rfl]
    exact (checks_grantsKept _ _).applied n
  | afterAllocation => rw [atAllocation_after, (fanPeriod_keeps _).zc rfl]

/-- The allocation finds the fans with the settings of the period (R49). -/
theorem atAllocation_fan_applied (n : Fin 2) :
    (atAllocation ms turn s).fc.fans[n].applied = fanSettingsAt s.sst.table n.val := by
  have hc := (climateStepped_keeps ms s).sst rfl
  rw [Fin.getElem_fin]
  cases turn with
  | beforeAllocation => rw [atAllocation_before, fanPeriod_applied, (checks_keeps _ _).sst rfl, hc]
  | afterAllocation => rw [atAllocation_after, fanPeriod_applied, hc]

/-- A control period leaves what its allocation left, PSQ's checks before it or after it. -/
theorem controlPeriod_allocated : AllocatedFrom (atAllocation ms turn s) (s.controlPeriod ms turn) := by
  have h := allocation_allocated (atAllocation ms turn s)
  cases turn with
  | beforeAllocation => rw [controlPeriod_before]; exact h
  | afterAllocation =>
    have k := checks_keeps (atAllocation ms .afterAllocation s).allocation (completes ms s)
    rw [controlPeriod_after]
    exact h.stands (k.la rfl) (k.fc rfl) (checks_grantsKept _ _)

theorem controlPeriod_up (hup : (s.controlPeriod ms turn).psq.state.up = true) : s.psq.state.up = true := by
  have hc := (climateStepped_keeps ms s).psq rfl
  cases turn with
  | beforeAllocation =>
    rw [controlPeriod_before, (allocation_keeps _).psq rfl] at hup
    have hchecks := checks_up (climateStepped ms s) (completes ms s)
    rw [← (fanPeriod_keeps _).psq rfl, hc] at hchecks
    exact hchecks hup
  | afterAllocation =>
    rw [controlPeriod_after] at hup
    have h := checks_up _ _ hup
    rw [(allocation_keeps _).psq rfl, atAllocation_psq_after] at h
    exact h

end Period

/-! ## KPS's answer and the command -/

/-- A quiet release is KPS's own: it gives no fresh press, so no action (R139). -/
theorem quietExpiry_keeps_own (p : Position) (s : State) :
    Keeps { kps := true, rpu := true, mem := true } s (s.quietExpiry p) := by
  refine guarded_keeps _ _ s ?_
  unfold State.unmaskKey
  split
  · exact .refl _ s
  · exact (((setKey_keeps p _ s).mono (by decide)).trans (reportKey_keeps _ p 1 _)).trans
      ((chordTouched_keeps p _).mono (by decide))

/-- Where the computer has not come up, KPS answers PSQ's state with quiet releases alone (R139). -/
theorem keypadFollows_keeps_own (old : SeqState) (s : State) (h : s.psq.state.up = true → old.up = true) :
    Keeps { kps := true, rpu := true, mem := true } s (s.keypadFollows old) := by
  have hquiet : Keeps { kps := true, rpu := true, mem := true } s
      (if s.psq.state.parked && decide (s.psq.state ≠ old) then s.eachPosition State.quietExpiry else s) := by
    split
    · exact eachPosition_keeps _ s quietExpiry_keeps_own
    · exact .refl _ s
  unfold State.keypadFollows
  dsimp only
  rw [hquiet.psq rfl, if_neg (by simpa using h)]
  exact hquiet

/-- After a control period's effect only KPS, RPU and the window follow. -/
theorem act_controlPeriod_keeps (r : Rewrites) (ms : Vector Measurement 6) (turn : PsqTurn) (s : State) :
    Keeps { kps := true, rpu := true, mem := true } (s.controlPeriod ms turn) (State.act r (State.controlPeriod ms turn) s) :=
  (keypadFollows_keeps_own s.psq.state _ (controlPeriod_up ms turn s)).trans ((publish_keeps _ _ _).mono (by decide))

theorem exec_controlPeriod (dt : Nat) (ms : Vector Measurement 6) (turn : PsqTurn) (s : State) :
    exec (.controlPeriod dt ms turn) s = execControlPeriod dt ms turn s := rfl

/-- A control period that is due answers a state that its allocation has left, and PSQ as the period left it. -/
theorem exec_controlPeriod_allocated (dt : Nat) (ms : Vector Measurement 6) (turn : PsqTurn) {s : State} {p : Nat}
    (hr : s.resetting = none) (hp : s.period = some p) (hdue : p + 250000 ≤ s.clock + dt) :
    ∃ t, exec (.controlPeriod dt ms turn) s = .next t ∧ AllocatedFrom (atAllocation ms turn (s.elapse dt)) t
      ∧ t.psq = ((s.elapse dt).controlPeriod ms turn).psq := by
  have hreached : (s.elapse dt).reached (s.elapse dt).period Config.controlPeriodUs = true := by
    simp only [State.reached, elapse_period, elapse_clock, hp, Config.controlPeriodUs]
    exact decide_eq_true hdue
  have k := act_controlPeriod_keeps { period := true } ms turn (s.elapse dt)
  refine ⟨_, ?_, (controlPeriod_allocated ms turn _).keeps k rfl rfl rfl, k.psq rfl⟩
  rw [exec_controlPeriod]
  exact commandIf_due hr hreached

end Sys2Proof.SupplyBudget
end

section
/-! PROOFS. The supply budget, third part: the two statements of the family, from the closed form of the class pass and the
state that a control period's allocation leaves. -/

namespace Sys2Proof.SupplyBudget

open Sys2Proof Sys2Proof.Machine Sys2Proof.Laws

/-! ## An allocation's record -/

section Record

variable (q : Vector LoadRequest 6) (b r : Nat) (ap : Bool) (la : Allocator)

theorem request_mem (i : Nat) (h : i < 6) : q[i] ∈ q.toList := Vector.mem_toList_iff.2 (Vector.getElem_mem h)

theorem allocate_applies : (la.allocate q b r ap).applies = ap := rfl

theorem allocate_available : (la.allocate q b r ap).available = availablePower b r ap := rfl

theorem allocate_powerOf_below (c : Nat) : (la.allocate q b r ap).powerOf (fun k => decide (k < c)) = below q c :=
  allocate_powerOf b r ap la _

theorem allocate_powerOf_class (c : Nat) :
    (la.allocate q b r ap).powerOf (fun k => decide (k = c)) = classTotal q c := by
  rw [allocate_powerOf, classTotal_eq]

/-- No class is short where the power of all is available (R35). -/
theorem allocate_shortClass_none (h : (la.allocate q b r ap).powerOf (fun _ => true) ≤ availablePower b r ap) :
    (la.allocate q b r ap).shortClass = none := by
  rw [allocate_powerOf] at h
  exact short_eq_none ((sumOver_mono fun _ _ => rfl).trans h)

/-- Class 0 is not short where its power is available (R41). -/
theorem allocate_short0_of_le (h : classTotal q 0 ≤ availablePower b r ap) :
    (la.allocate q b r ap).short0 = false ∧ (la.allocate q b r ap).shortfall = 0 := by
  have hs : (passBefore q (availablePower b r ap) 4).short ≠ some 0 := short_ne_zero h
  simp [Allocator.allocate, hs]

/-- Class 0 is short where its power is not available, by what is missing (R41). -/
theorem allocate_short0_of_lt (h : availablePower b r ap < classTotal q 0) :
    (la.allocate q b r ap).short0 = true
      ∧ (la.allocate q b r ap).shortfall = classTotal q 0 - availablePower b r ap := by
  have hs : (passBefore q (availablePower b r ap) 4).short = some 0 :=
    short_eq_some (by simp) (by simpa [below_succ] using h) (by omega)
  simp [Allocator.allocate, hs]

/-- A budget that the reservation uses up leaves nothing to grant (R36). -/
theorem allocate_total_zero (h : b ≤ r) : (la.allocate q b r true).total = 0 := by
  have htotal : (la.allocate q b r true).total ≤ b - r := allocate_total_le b r true la
  omega

/-- A load's request power, and its grant and granted duty within their bounds (R32, R37). -/
theorem loadAfter_bounds (a : Nat) {l : LoadRequest} (hl : l ∈ q.toList) :
    (loadAfter q a l).power = (l.rating * l.duty + 255) / 256
      ∧ (loadAfter q a l).grant ≤ (loadAfter q a l).power
      ∧ (loadAfter q a l).granted = min l.duty ((loadAfter q a l).grant * 256 / l.rating)
      ∧ (1 ≤ l.rating → (loadAfter q a l).grant = (loadAfter q a l).power → (loadAfter q a l).granted = l.duty)
      ∧ (1 ≤ l.rating → l.rating * (loadAfter q a l).granted ≤ (loadAfter q a l).grant * 256) := by
  refine ⟨rfl, grantOf_le_loadPower hl, rfl, fun hrating hfull => ?_, fun _ => rating_mul_grantedDuty_le l _⟩
  exact (congrArg (grantedDuty l) hfull).trans (grantedDuty_full hrating)

end Record

/-! ## The loads of a control period -/

section Loads

variable {dt : Nat} {ms : Vector Measurement 6} {turn : PsqTurn} {s t : State}

theorem atAllocation_settingNat (k : Nat) :
    (atAllocation ms turn (s.elapse dt)).settingNat k = (s.setting k).toNat := by
  rw [State.settingNat, State.setting, (atAllocation_keeps ms turn _).sst rfl]
  rfl

/-- The loads L0 to L3 hold the zones' requests and settings (R31). -/
theorem AllocatedFrom.zoneLoad (h : AllocatedFrom (atAllocation ms turn (s.elapse dt)) t) (n : Fin 4) :
    t.la.loads[n.val].duty = t.zc.zones[n].request ∧ t.la.loads[n.val].cls = (s.setting (12 + 8 * n.val)).toNat
      ∧ t.la.loads[n.val].rating = (s.setting (13 + 8 * n.val)).toNat := by
  rw [h.request, h.la, allocate_load _ _ _ _ n.val (by omega), loadRequests_zone, atAllocation_zone_applied]
  exact ⟨rfl, rfl, rfl⟩

/-- The loads L4 and L5 hold the fans' requests and settings (R31). -/
theorem AllocatedFrom.fanLoad (h : AllocatedFrom (atAllocation ms turn (s.elapse dt)) t) (n : Fin 2) :
    t.la.loads[n.val + 4].duty = t.fc.fans[n].request
      ∧ t.la.loads[n.val + 4].cls = (s.setting (46 + 8 * n.val)).toNat
      ∧ t.la.loads[n.val + 4].rating = (s.setting (47 + 8 * n.val)).toNat := by
  rw [h.fanRequest, h.la, allocate_load _ _ _ _ (n.val + 4) (by omega), loadRequests_fan, atAllocation_fan_applied]
  exact ⟨rfl, rfl, rfl⟩

/-- With PSQ's checks before it, the allocation reads the state that the period ends in (R30). -/
theorem applies_beforeAllocation (h : AllocatedFrom (atAllocation ms .beforeAllocation s) t)
    (hpsq : t.psq = (s.controlPeriod ms .beforeAllocation).psq) : t.la.applies = t.psq.state.railOn := by
  rw [h.la, allocate_applies, hpsq, controlPeriod_before, (allocation_keeps _).psq rfl]

/-- With PSQ's checks after it, the allocation reads the state that the period found (R30). -/
theorem applies_afterAllocation (h : AllocatedFrom (atAllocation ms .afterAllocation s) t) :
    t.la.applies = s.psq.state.railOn := by
  rw [h.la, allocate_applies, atAllocation_psq_after]

end Loads

/-! ## The obligations -/

/-- Settles O15: the class pass solved by `passBefore_of_below_le` and `passBefore_of_short`. -/
theorem grantsFollowTheClassPass : Obligations.GrantsFollowTheClassPass := by
  intro dt ms turn s p hr hp hdue
  obtain ⟨t, ht, halloc, -⟩ := exec_controlPeriod_allocated dt ms turn hr hp hdue
  refine ⟨t, ht, fun i => ?_⟩
  dsimp only
  rw [halloc.la]
  generalize State.loadRequests _ = q
  generalize State.settingNat _ 0 = b
  generalize State.settingNat _ 1 = r
  generalize SeqState.railOn _ = ap
  generalize State.la _ = la
  rw [Fin.getElem_fin, allocate_load b r ap la i.val i.isLt, allocate_powerOf_below, allocate_powerOf_class,
    allocate_powerOf_class, allocate_available]
  have hmem := request_mem q i.val i.isLt
  refine ⟨fun hfull => grantOf_full hmem hfull, fun hk hs => ⟨grantOf_short hk hs, fun hc => ?_, fun h0 => ?_⟩,
    fun hstarved => grantOf_starved hstarved, allocate_short0_of_le q b r ap la, allocate_shortClass_none q b r ap la⟩
  · exact short_eq_some hk (by rw [below_succ]; exact hs) hc
  · rw [h0] at hs ⊢
    exact allocate_short0_of_lt q b r ap la (by simpa using hs)

/-- Settles O14: the total by `allocate_total_le`, the copies and the return by what the period's allocation leaves. -/
theorem grantsStayWithinTheSupply : Obligations.GrantsStayWithinTheSupply := by
  intro dt ms turn s p hr hp hdue
  obtain ⟨t, ht, halloc, hpsq⟩ := exec_controlPeriod_allocated dt ms turn hr hp hdue
  have hla := halloc.la
  rw [atAllocation_settingNat, atAllocation_settingNat] at hla
  refine ⟨t, ht, by rw [hla]; rfl, by rw [hla]; rfl, ?applies, by rw [hla]; rfl,
    by rw [hla]; exact allocate_total_le _ _ _ _, by rw [hla]; rfl, ?exhausted, ?bounds, ?zones, ?fans, ?frame⟩
  case applies =>
    cases turn with
    | beforeAllocation => exact applies_beforeAllocation halloc hpsq
    | afterAllocation => rw [applies_afterAllocation halloc, elapse_psq]
  case exhausted =>
    rw [hla]
    intro (hrail : SeqState.railOn _ = true) hbudget
    rw [hrail]
    exact allocate_total_zero _ _ _ _ hbudget
  case bounds =>
    intro i
    dsimp only
    rw [hla, Fin.getElem_fin, allocate_load _ _ _ _ i.val i.isLt]
    exact loadAfter_bounds _ _ (request_mem _ i.val i.isLt)
  case zones =>
    intro n
    obtain ⟨hduty, hcls, hrating⟩ := halloc.zoneLoad n
    exact ⟨hduty, hcls, hrating, halloc.granted n, halloc.heaterOn n⟩
  case fans =>
    intro n
    obtain ⟨hduty, hcls, hrating⟩ := halloc.fanLoad n
    exact ⟨hduty, hcls, hrating, halloc.fanGrant n⟩
  case frame => rw [halloc.frameAt, (atAllocation_keeps ms turn _).clock, elapse_clock]

end Sys2Proof.SupplyBudget
end

section
/-! PROOFS. Fans, airflow and the filter watch, first part (O10): a step that touches the climate blocks alone shows the host
nothing, so a tach edge, a tach overrun and the end of a heater's on time are their effects and no more. -/

namespace Sys2Proof.FanControl

open Sys2Proof Sys2Proof.Machine Sys2Proof.Laws

/-! ## Steps that touch the climate blocks alone -/

/-- SFE, ZC, LA and FC: what neither the anchor nor the two mirror sections that follow changes show (R92, R118, R149, R166). -/
def climateBlocks : Blocks := { sfe := true, zc := true, la := true, fc := true }

section Quiet

variable {s t : State} (k : Keeps climateBlocks s t)

include k

theorem climate_anchorValue (w : Nat) : t.anchorValue w = s.anchorValue w := by
  simp only [State.anchorValue, k.exc rfl, k.rpu rfl, k.sst rfl, k.uptime, k.resetCause]

theorem climate_writeAnchor : State.writeAnchor s t = t := by
  simp [State.writeAnchor, anchorWatched, climate_anchorValue k]

theorem climate_supervisionChanged : State.supervisionChanged s t = false := by
  simp [State.supervisionChanged, State.windowInForce, State.graceInForce, State.settingNat, State.setting, k.psq rfl,
    k.hbw rfl, k.sst rfl]

theorem climate_panelChanged : State.panelChanged s t = false := by
  have hkeys : t.key = s.key := by funext p; simp only [State.key, k.kps rfl]
  have hwords : t.keyWords = s.keyWords := by rw [State.keyWords, State.keyWords, hkeys]
  simp [State.panelChanged, hwords, k.kps rfl]

theorem climate_publish : State.publish {} s t = t := by
  simp [State.publish, State.rewriteIf, climate_writeAnchor k, climate_supervisionChanged k, climate_panelChanged k]

theorem climate_keypadFollows : t.keypadFollows s.psq.state = t := by
  rw [← k.psq rfl]; exact keypadFollows_same t

end Quiet

/-- A step whose effect touches the climate blocks alone is its effect. -/
theorem act_climate {f : State → State} {s : State} (k : Keeps climateBlocks s (f s)) : State.act {} f s = f s := by
  rw [State.act, climate_keypadFollows k, climate_publish k]

/-! ## Tach edges and overruns -/

section Tach

variable {f : Fan} {now : Nat}

/-- A first edge, or one after an overrun, starts the count (R55). -/
theorem edge_start (h : f.tach = .noEdge ∨ f.tach = .overrun) : f.edge now = { f with tach := .running now } := by
  rcases h with h | h <;> simp [Fan.edge, h]

/-- An edge `k` µs after the one before it (R55): nothing at 0, a capture up to 65535, the count alone above. -/
theorem edge_running {t0 k : Nat} (h : f.tach = .running t0) (hk : t0 + k = now) :
    f.edge now = if k = 0 then f
      else if k ≤ 65535 then { f with tach := .running now, capture := .unread k } else { f with tach := .running now } := by
  have hsub : now - t0 = k := by omega
  simp only [Fan.edge, h, hsub, Config.tachMax]

/-- A count that has passed 65535 µs is overrun (R55). -/
theorem passOverrun_late {t0 : Nat} (h : f.tach = .running t0) (hlate : t0 + 65535 < now) :
    f.passOverrun now = { f with tach := .overrun } := by
  have hpast : Config.tachMax < now - t0 := by simp only [Config.tachMax]; omega
  simp [Fan.passOverrun, h, hpast]

end Tach

section Commands

variable {s : State} (dt : Nat)

theorem act_setFan (n : Fin 2) (f : State → Fan) (s : State) :
    State.act {} (fun s => s.setFan n (f s)) s = s.setFan n (f s) :=
  act_climate ((setFan_keeps n _ s).mono (by decide))

theorem exec_tachEdge (n : Fin 2) (h : s.resetting = none) :
    exec (.tachEdge dt n) s = .next ((s.elapse dt).setFan n (s.fc.fans[n].edge (s.clock + dt))) :=
  (command_next h).trans (congrArg _ (act_setFan n _ _))

theorem exec_tachOverrun (n : Fin 2) (h : s.resetting = none) :
    exec (.tachOverrun dt n) s = .next ((s.elapse dt).setFan n (s.fc.fans[n].passOverrun (s.clock + dt))) :=
  (command_next h).trans (congrArg _ (act_setFan n _ _))

theorem exec_heaterOnTimeEnd (n : Fin 4) (h : s.resetting = none) (hdue : (s.elapse dt).heaterDue n = true) :
    exec (.heaterOnTimeEnd dt n) s = .next ((s.elapse dt).heaterOff n) :=
  (commandIf_due h hdue).trans (congrArg _ (act_climate ((heaterOff_keeps n _).mono (by decide))))

/-- A heater's on time is over when its duty of the frame has passed (R39). -/
theorem heaterDue_of_passed {n : Fin 4} {t0 : Nat} (hframe : s.zc.frameAt = some t0) (h1 : 1 ≤ s.zc.zones[n].granted)
    (h2 : s.zc.zones[n].granted ≤ 255) (hpassed : t0 * 256 + s.zc.zones[n].granted * 250000 ≤ s.clock * 256) :
    s.heaterDue n = true := by
  rw [State.heaterDue, hframe]
  refine decide_eq_true ⟨h1, h2, ?_⟩
  rw [Nat.sub_mul]
  exact Nat.le_sub_of_add_le' hpassed

/-- A fan's record replaced changes the clock of the command, that record, and nothing else. -/
theorem elapse_setFan_unchanged (n : Fin 2) (f : Fan) : Unchanged [.clock, .fc] s ((s.elapse dt).setFan n f) := by
  intro b hb
  cases b <;> simp [Block.same] at hb ⊢

end Commands

/-! ## The obligation -/

/-- Settles O10: `act_climate` makes each command its effect, and the count's condition and the passed time decide the effect. -/
theorem tachAndHeaterTimesAreKept : Obligations.TachAndHeaterTimesAreKept := by
  refine ⟨⟨fun dt n s hr => ?edge, fun dt n s t0 hr htach hlate => ?overrun⟩, fun dt n s t0 hr hframe h1 h2 hpassed => ?heater⟩
  case edge =>
    have hself (f : Fan) : ((s.elapse dt).setFan n f).fc.fans[n] = f := Vector.getElem_set_self _
    refine ⟨_, exec_tachEdge dt n hr, elapse_setFan_unchanged dt n _, rfl, fun m hm => ?_, ?_⟩
    · exact Vector.getElem_set_ne n.isLt m.isLt fun h => hm (Fin.ext h.symm)
    · rw [hself]
      split
      next h => exact edge_start (.inl h)
      next h => exact edge_start (.inr h)
      next t0 h => exact fun k hk => edge_running h hk
  case overrun => rw [exec_tachOverrun dt n hr, passOverrun_late htach hlate]; rfl
  case heater => rw [exec_heaterOnTimeEnd dt n hr (heaterDue_of_passed hframe h1 h2 hpassed)]; rfl

end Sys2Proof.FanControl
end

section
/-! PROOFS. Fans, airflow and the filter watch, second part: what each step of FC's control period leaves in a fan's record
and in the clog score, whatever the fan. -/

namespace Sys2Proof.FanControl

open Sys2Proof Sys2Proof.Machine Sys2Proof.Laws Sys2Proof.SupplyBudget

/-! ## The value of a channel -/

theorem value_eq_none_iff (c : Channel) : c.value = none ↔ c.status = .failed ∨ c.filled = false := by
  simp [Channel.value, Channel.usable]
  tauto

theorem value_eq_filtered {c : Channel} (h : ¬ (c.status = .failed ∨ c.filled = false)) : c.value = some c.filtered := by
  simp only [not_or, Bool.not_eq_false] at h
  simp [Channel.value, Channel.usable, h]

section FanSteps

variable (f : Fan) (n : Nat)

/-! ## The reading -/

theorem readStep_unread {q : Nat} (h : f.capture = .unread q) :
    f.readStep = { f with capture := .read q, reading := some q, speed := 30000000 / q } := by
  simp [Fan.readStep, speedOf, h]

theorem readStep_read {q : Nat} (h : f.capture = .read q) : f.readStep = { f with reading := none, speed := 0 } := by
  simp [Fan.readStep, h]

theorem readStep_none (h : f.capture = .none) : f.readStep = { f with reading := none, speed := 0 } := by
  simp [Fan.readStep, h]

@[simp] theorem readStep_grant : f.readStep.grant = f.grant := by unfold Fan.readStep; split <;> rfl
@[simp] theorem readStep_tach : f.readStep.tach = f.tach := by unfold Fan.readStep; split <;> rfl
@[simp] theorem readStep_stall : f.readStep.stall = f.stall := by unfold Fan.readStep; split <;> rfl
@[simp] theorem readStep_good : f.readStep.good = f.good := by unfold Fan.readStep; split <;> rfl
@[simp] theorem readStep_failed : f.readStep.failed = f.failed := by unfold Fan.readStep; split <;> rfl

@[simp] theorem readStep_threshold : f.readStep.threshold = f.threshold := by simp [Fan.threshold]

/-! ## The stall test -/

/-- The outcome of the stall test (R58, R59) of a fan that was `f`, at the speed that `g` holds: an OK fan that is slow too
often fails, and a FAILED one that is fast often enough recovers. -/
def StallTested (threshold : Nat) (f g : Fan) : Prop :=
  if f.failed = false then
    if f.grant < 64 ∨ threshold ≤ g.speed then g.failed = false ∧ g.stall = 0 ∧ g.good = f.good
    else if f.stall + 1 < 8 then g.failed = false ∧ g.stall = f.stall + 1 ∧ g.good = f.good
    else g.failed = true ∧ g.stall = 8 ∧ g.good = 0
  else if f.grant < 64 then g.failed = true ∧ g.stall = f.stall ∧ g.good = f.good
  else if g.speed < threshold then g.failed = true ∧ g.stall = f.stall ∧ g.good = 0
  else if f.good + 1 < 8 then g.failed = true ∧ g.stall = f.stall ∧ g.good = f.good + 1
  else g.failed = false ∧ g.stall = 0 ∧ g.good = 0

/-- The stall test moves the two counts and the failed flag alone (R58, R59). -/
theorem stallStep_eq :
    (f.stallStep n).1 =
      { f with
        stall := (f.stallStep n).1.stall, good := (f.stallStep n).1.good, failed := (f.stallStep n).1.failed } := by
  unfold Fan.stallStep
  dsimp only
  repeat' split
  all_goals rfl

@[simp] theorem stallStep_grant : (f.stallStep n).1.grant = f.grant := by rw [stallStep_eq]
@[simp] theorem stallStep_tach : (f.stallStep n).1.tach = f.tach := by rw [stallStep_eq]
@[simp] theorem stallStep_capture : (f.stallStep n).1.capture = f.capture := by rw [stallStep_eq]
@[simp] theorem stallStep_reading : (f.stallStep n).1.reading = f.reading := by rw [stallStep_eq]
@[simp] theorem stallStep_speed : (f.stallStep n).1.speed = f.speed := by rw [stallStep_eq]

theorem stallStep_tested : StallTested f.threshold f (f.stallStep n).1 := by
  rw [StallTested, stallStep_speed]
  cases hfailed : f.failed with
  | false =>
    by_cases hgrant : f.grant < 64
    · simp [Fan.stallStep, hfailed, hgrant]
    by_cases hfast : f.threshold ≤ f.speed
    · simp [Fan.stallStep, hfailed, hgrant, hfast]
    by_cases hstall : f.stall + 1 < 8
    · simp [Fan.stallStep, hfailed, hgrant, hfast, hstall, Nat.not_le.2 hstall]
    · simp [Fan.stallStep, hfailed, hgrant, hfast, hstall, Nat.not_lt.1 hstall]
  | true =>
    by_cases hgrant : f.grant < 64
    · simp [Fan.stallStep, hfailed, hgrant]
    by_cases hslow : f.speed < f.threshold
    · simp [Fan.stallStep, hfailed, hgrant, hslow, Nat.not_le.2 hslow]
    by_cases hgood : f.good + 1 < 8
    · simp [Fan.stallStep, hfailed, hgrant, hslow, Nat.not_lt.1 hslow, hgood, Nat.not_le.2 hgood]
    · simp [Fan.stallStep, hfailed, hgrant, hslow, Nat.not_lt.1 hslow, hgood, Nat.not_lt.1 hgood]

/-- A read fan is tested as the fan before its reading, at the speed read. -/
theorem readStep_stallStep_tested : StallTested f.threshold f (f.readStep.stallStep n).1 := by
  have h := stallStep_tested f.readStep n
  simp only [StallTested, readStep_threshold, readStep_failed, readStep_grant, readStep_stall, readStep_good] at h ⊢
  exact h

/-! ## The request -/

section Request

variable (trip heat rail : Bool) (tf0 tf1 v : Int) (e : Option Int)

/-- The request step writes the forced flags and the request alone (R52, R53). -/
theorem requestStep_eq :
    f.requestStep trip heat rail tf0 tf1 e =
      { f with
        forcedTrip := trip, forcedOverheat := heat, forcedExhaust := e.isNone
        request := (f.requestStep trip heat rail tf0 tf1 e).request } := by
  unfold Fan.requestStep; split <;> rfl

theorem requestStep_forced (h : trip = true ∨ heat = true ∨ e = none) :
    (f.requestStep trip heat rail tf0 tf1 e).request = 256 := by
  cases e with
  | none => rfl
  | some v =>
    have hforced : (trip || heat) = true := by simpa using h
    simp [Fan.requestStep, hforced]

theorem requestStep_free :
    (f.requestStep false false rail tf0 tf1 (some v)).request = f.modeRequest rail tf0 tf1 v := rfl

variable {f}

theorem modeRequest_off (h : f.applied.mode = 0) : f.modeRequest rail tf0 tf1 v = 0 := by
  simp [Fan.modeRequest, h]

theorem modeRequest_fixed (h : f.applied.mode = 1) : f.modeRequest rail tf0 tf1 v = f.applied.fixedDuty := by
  simp [Fan.modeRequest, h]

theorem modeRequest_stir (h : f.applied.mode = 2) : f.modeRequest false tf0 tf1 v = f.applied.stirDuty := by
  simp [Fan.modeRequest, h]

theorem modeRequest_auto (h : f.applied.mode = 2) :
    f.modeRequest true tf0 tf1 v = autoCurve f.applied.minDuty tf0 tf1 v := by
  simp [Fan.modeRequest, h]

end Request

end FanSteps

/-! ## The AUTO curve -/

section Curve

variable {fmin : Nat} {tf0 tf1 e : Int}

theorem autoCurve_below (h : e ≤ tf0) : autoCurve fmin tf0 tf1 e = fmin := if_pos h

theorem autoCurve_above (h0 : tf0 < e) (h : tf1 ≤ e ∨ tf1 ≤ tf0) : autoCurve fmin tf0 tf1 e = 256 := by
  rw [autoCurve, if_neg (by omega), if_pos h]

theorem autoCurve_between (h0 : tf0 < e) (h1 : e < tf1) (hmin : (fmin : Int) ≤ 256) :
    (autoCurve fmin tf0 tf1 e : Int) = fmin + (e - tf0) * (256 - (fmin : Int)) / (tf1 - tf0) := by
  have hrise : 0 ≤ (e - tf0) * (256 - (fmin : Int)) / (tf1 - tf0) :=
    Int.ediv_nonneg (Int.mul_nonneg (by omega) (by omega)) (by omega)
  rw [autoCurve, if_neg (by omega), if_neg (by omega), Nat.cast_add, Int.toNat_of_nonneg hrise]

end Curve

/-! ## The clog score -/

section Clog

variable {rail : Bool} {fc : FanController}

/-- The score stays where a fan is FAILED or a channel has no value (R61). -/
theorem clogStep_held {a e : Option Int}
    (h : fc.fans[0].failed = true ∨ fc.fans[1].failed = true ∨ a = none ∨ e = none) :
    (fc.clogStep rail a e).1 = fc := by
  match a, e with
  | none, _ => rfl
  | some _, none => rfl
  | some a, some e =>
    have hfailed : (fc.fans[0].failed || fc.fans[1].failed) = true := by simpa using h
    simp [FanController.clogStep, hfailed]

variable {a e : Int} (h0 : fc.fans[0].failed = false) (h1 : fc.fans[1].failed = false)

include h0 h1

/-- The score rises on the evidence of R61, and the flag is set where it reaches 1000 (R62). -/
theorem clogStep_rises (h : clogRises rail fc.fans a e fc.clogDiff = true) :
    (fc.clogStep rail (some a) (some e)).1.clog = min 1000 (fc.clog + 1)
      ∧ (fc.clogStep rail (some a) (some e)).1.filterFlag = (fc.filterFlag || decide (999 ≤ fc.clog)) := by
  have hfull : min 1000 (fc.clog + 1) = 1000 ↔ 999 ≤ fc.clog := by omega
  cases hflag : fc.filterFlag
  · by_cases hn : 999 ≤ fc.clog <;> simp [FanController.clogStep, h0, h1, h, hfull, hflag, hn]
  · simp [FanController.clogStep, h0, h1, h, hflag]

/-- Without that evidence the score falls (R61). -/
theorem clogStep_falls (h : clogRises rail fc.fans a e fc.clogDiff = false) :
    (fc.clogStep rail (some a) (some e)).1 = { fc with clog := fc.clog - 1 } := by
  simp [FanController.clogStep, h0, h1, h]

end Clog

/-- The score keeps its bound (R61). -/
theorem clogStep_clog_le {rail : Bool} {a e : Option Int} {fc : FanController} (h : fc.clog ≤ 1000) :
    (fc.clogStep rail a e).1.clog ≤ 1000 := by
  unfold FanController.clogStep
  dsimp only
  repeat' split
  all_goals dsimp only; omega

theorem clogStep_tf (rail : Bool) (a e : Option Int) (fc : FanController) :
    (fc.clogStep rail a e).1.tf0 = fc.tf0 ∧ (fc.clogStep rail a e).1.tf1 = fc.tf1 := by
  unfold FanController.clogStep
  dsimp only
  repeat' split
  all_goals exact ⟨rfl, rfl⟩

end Sys2Proof.FanControl
end

section
/-! PROOFS. Fans, airflow and the filter watch, third part (O16, O17): the state that FC's control period finds, what the rest
of the period leaves of FC's work, and the two statements. -/

namespace Sys2Proof.FanControl

open Sys2Proof Sys2Proof.Machine Sys2Proof.Laws Sys2Proof.SupplyBudget

/-! ## FC's control period -/

section FanPeriod

variable (u : State)

/-- A fan after its reading and its stall test, on the settings of the period (R49, R56 to R59). -/
def testedFan (u : State) (n : Fin 2) : Fan :=
  ({ u.fc.fans[n] with applied := fanSettingsAt u.sst.table n.val }.readStep.stallStep n.val).1

/-- FC as the clog step finds it (R49, R61). -/
def testedController (u : State) : FanController :=
  { u.fc with
    fans := Vector.ofFn (testedFan u), tf0 := u.setting 56, tf1 := u.setting 57, clogDiff := u.setting 58 }

/-- FC after the clog step (R61, R62). -/
def scoredController (u : State) : FanController :=
  ((testedController u).clogStep u.psq.state.railOn u.intakeA.value u.exhaustE.value).1

/-- A fan after the request step (R52, R53). -/
def requestedFan (u : State) (n : Fin 2) : Fan :=
  (testedFan u n).requestStep (decide (∃ m : Fin 4, u.zc.zones[m].state = .tripped)) (decide (0 < u.zc.dwell))
    u.psq.state.railOn (u.setting 56) (u.setting 57) u.exhaustE.value

theorem testedController_fan (n : Fin 2) : (testedController u).fans[n] = testedFan u n := Vector.getElem_ofFn _

theorem testedFan_applied (n : Fin 2) : (testedFan u n).applied = fanSettingsAt u.sst.table n.val := by
  simp [testedFan]

theorem testedFan_grant (n : Fin 2) : (testedFan u n).grant = u.fc.fans[n].grant := by simp [testedFan]

theorem testedFan_tach (n : Fin 2) : (testedFan u n).tach = u.fc.fans[n].tach := by simp [testedFan]

theorem fanPeriod_fan (n : Fin 2) : u.fanPeriod.fc.fans[n] = requestedFan u n := by
  obtain ⟨htf0, htf1⟩ := clogStep_tf u.psq.state.railOn u.intakeA.value u.exhaustE.value (testedController u)
  have hfans := clogStep_fans u.psq.state.railOn u.intakeA.value u.exhaustE.value (testedController u)
  have hfan : u.fanPeriod.fc.fans[n] = (scoredController u).fans[n].requestStep
      (decide (∃ m : Fin 4, u.zc.zones[m].state = .tripped)) (decide (0 < u.zc.dwell)) u.psq.state.railOn
      (scoredController u).tf0 (scoredController u).tf1 u.exhaustE.value := Vector.getElem_ofFn _
  rw [hfan, scoredController, htf0, htf1, hfans, testedController_fan]
  rfl

theorem fanPeriod_scored :
    u.fanPeriod.fc.clog = (scoredController u).clog ∧ u.fanPeriod.fc.filterFlag = (scoredController u).filterFlag := by
  unfold State.fanPeriod
  dsimp only
  rw [(createReports_keeps _ _).fc rfl]
  exact ⟨rfl, rfl⟩

end FanPeriod

/-! ## What a period leaves of FC's work -/

/-- `t` holds what FC's control period on the state `u` leaves, but for the grants that LA has returned since (R37). -/
structure FansLeft (u t : State) : Prop where
  fan : ∀ n : Fin 2, ∃ d, t.fc.fans[n] = { requestedFan u n with grant := d }
  clog : t.fc.clog = (scoredController u).clog
  filterFlag : t.fc.filterFlag = (scoredController u).filterFlag
  sfe : t.sfe = u.sfe

/-- What LA's allocation leaves in FC and ZC but for the grants (R31, R37). -/
structure GrantsAlone (s t : State) : Prop where
  fan : ∀ n : Fin 2, ∃ d, t.fc.fans[n] = { s.fc.fans[n] with grant := d }
  clog : t.fc.clog = s.fc.clog
  filterFlag : t.fc.filterFlag = s.fc.filterFlag
  state : ∀ m : Fin 4, t.zc.zones[m].state = s.zc.zones[m].state
  dwell : t.zc.dwell = s.zc.dwell

theorem takeGrants_alone (s : State) (la : Allocator) : GrantsAlone s (State.takeGrants { s with la := la }) where
  fan n := ⟨_, Vector.getElem_ofFn _⟩
  clog := rfl
  filterFlag := rfl
  state m := by simp [State.takeGrants]
  dwell := rfl

theorem allocation_alone (s : State) : GrantsAlone s s.allocation := by
  obtain ⟨hfan, hclog, hflag, hstate, hdwell⟩ :=
    takeGrants_alone s (s.la.allocate s.loadRequests (s.settingNat 0) (s.settingNat 1) s.psq.state.railOn)
  constructor <;> rw [State.allocation] <;> simpa only [(createReports_keeps _ _).fc rfl, (createReports_keeps _ _).zc rfl]

theorem fanPeriod_left (u : State) : FansLeft u u.fanPeriod.allocation := by
  have h := allocation_alone u.fanPeriod
  obtain ⟨hclog, hflag⟩ := fanPeriod_scored u
  exact
    { fan := fun n => fanPeriod_fan u n ▸ h.fan n
      clog := h.clog.trans hclog
      filterFlag := h.filterFlag.trans hflag
      sfe := ((allocation_keeps _).sfe rfl).trans ((fanPeriod_keeps u).sfe rfl) }

/-- What FC left stands while FC and SFE stand. -/
theorem FansLeft.keeps {u t v : State} {b : Blocks} (h : FansLeft u t) (k : Keeps b t v) (hfc : b.fc = false)
    (hsfe : b.sfe = false) : FansLeft u v where
  fan n := by rw [k.fc hfc]; exact h.fan n
  clog := by rw [k.fc hfc]; exact h.clog
  filterFlag := by rw [k.fc hfc]; exact h.filterFlag
  sfe := (k.sfe hsfe).trans h.sfe

/-! ## The state that FC finds -/

section Period

variable (ms : Vector Measurement 6) (turn : PsqTurn) (s : State)

/-- The state that FC's control period finds (R30, R51). -/
def atFans : State :=
  match turn with
  | .beforeAllocation => checks (completes ms s) (climateStepped ms s)
  | .afterAllocation => climateStepped ms s

theorem atFans_keeps :
    Keeps { sfe := true, zc := true, psq := true, hbw := true, exc := true, rpu := true, mem := true, part := true }
      s (atFans ms turn s) := by
  have h : Keeps { sfe := true, zc := true, psq := true, hbw := true, exc := true, rpu := true, mem := true, part := true }
      s (climateStepped ms s) := (climateStepped_keeps ms s).mono (by decide)
  cases turn with
  | beforeAllocation => exact h.trans ((checks_keeps _ _).mono (by decide))
  | afterAllocation => exact h

theorem atFans_setting (n : Nat) : (atFans ms turn s).setting n = s.setting n := by
  rw [State.setting, (atFans_keeps ms turn s).sst rfl, State.setting]

theorem atAllocation_eq : atAllocation ms turn s = (atFans ms turn s).fanPeriod := by cases turn <;> rfl

theorem controlPeriod_left : FansLeft (atFans ms turn s) (s.controlPeriod ms turn) := by
  have h := fanPeriod_left (atFans ms turn s)
  rw [← atAllocation_eq] at h
  cases turn with
  | beforeAllocation => rw [controlPeriod_before]; exact h
  | afterAllocation => rw [controlPeriod_after]; exact h.keeps (checks_keeps _ _) rfl rfl

/-- The rail that FC reads, in a period that led from `s` to `t` (R53, R61; log 11). -/
def railRead (turn : PsqTurn) (s t : State) : Bool :=
  match turn with
  | .beforeAllocation => t.psq.state.railOn
  | .afterAllocation => s.psq.state.railOn

theorem atFans_railOn : (atFans ms turn s).psq.state.railOn = railRead turn s (s.controlPeriod ms turn) := by
  cases turn with
  | beforeAllocation =>
    rw [railRead, controlPeriod_before, atAllocation_eq, (allocation_keeps _).psq rfl, (fanPeriod_keeps _).psq rfl]
  | afterAllocation => rw [railRead, atFans, (climateStepped_keeps ms s).psq rfl]

/-! ## A period that completes no overheat -/

theorem dwellAfter_le (v : Option Int) (tcrit : Int) (rail : Bool) (d : Nat) : dwellAfter v tcrit rail d ≤ d + 1 := by
  unfold dwellAfter
  repeat' split
  all_goals omega

theorem dwellAfter_railOff (v : Option Int) (tcrit : Int) (d : Nat) : dwellAfter v tcrit false d = 0 := by
  unfold dwellAfter; split <;> simp

theorem overheatDwell_dwell (u : State) : u.overheatDwell.zc.dwell =
    dwellAfter (overheatSourceOf u.sfe[0] u.exhaustE).2 u.zc.tcrit u.psq.state.railOn u.zc.dwell := rfl

theorem zonePeriod_dwell (u : State) : u.zonePeriod.zc.dwell = u.zc.dwell := by
  rw [State.zonePeriod, (createReports_keeps _ _).zc rfl]

theorem climateStepped_dwell :
    ∃ v tcrit, (climateStepped ms s).zc.dwell = dwellAfter v tcrit s.psq.state.railOn s.zc.dwell := by
  have hdwell := overheatDwell_dwell (State.measureAll ms { s with period := some s.clock }).zonePeriod
  rw [zonePeriod_dwell, (zonePeriod_keeps _).psq rfl, (measureAll_keeps ms _).psq rfl,
    (measureAll_keeps ms _).zc rfl] at hdwell
  unfold climateStepped
  exact ⟨_, _, hdwell⟩

variable {ms s}

theorem completes_eq_false (h : s.noOverheatDue) : completes ms s = false := by
  obtain ⟨v, tcrit, hdwell⟩ := climateStepped_dwell ms s
  have hle := dwellAfter_le v tcrit s.psq.state.railOn s.zc.dwell
  rw [completes, overheatComplete, ← Bool.decide_and, decide_eq_false_iff_not, hdwell, Config.dwellMax]
  rcases h with h | h
  · omega
  · rw [h, dwellAfter_railOff]; omega

/-- Checks that complete no overheat leave ZC (R71, R87, R111). -/
theorem checks_zc (u : State) : (checks false u).zc = u.zc := by
  rw [checks, (ageHistory_keeps _).zc rfl, State.psqPeriod, Bool.false_and, if_neg Bool.false_ne_true]
  split
  · split
    · exact (enterPowering_keeps u).zc rfl
    · rfl
  · split
    · exact (enterHeating_keeps u).zc rfl
    · rfl
  all_goals rfl

/-- A period that completes no overheat ends with the zones' states and the dwell count that FC found (R23, R24). -/
theorem controlPeriod_zones (h : s.noOverheatDue) :
    (∀ m : Fin 4, (s.controlPeriod ms turn).zc.zones[m].state = (atFans ms turn s).zc.zones[m].state)
      ∧ (s.controlPeriod ms turn).zc.dwell = (atFans ms turn s).zc.dwell := by
  have hleft := allocation_alone (atAllocation ms turn s)
  have hstate := hleft.state
  have hdwell := hleft.dwell
  rw [atAllocation_eq, (fanPeriod_keeps _).zc rfl, ← atAllocation_eq] at hdwell
  rw [atAllocation_eq, (fanPeriod_keeps _).zc rfl, ← atAllocation_eq] at hstate
  cases turn with
  | beforeAllocation => rw [controlPeriod_before]; exact ⟨hstate, hdwell⟩
  | afterAllocation => rw [controlPeriod_after, completes_eq_false h, checks_zc]; exact ⟨hstate, hdwell⟩

end Period

/-! ## The fans that a period leaves -/

/-- What a period's reading leaves of a fan that was `f` (R56, R57): a capture not read yet is read once and gives the speed. -/
def ReadingTaken (f g : Fan) : Prop :=
  match f.capture with
  | .unread q => g.capture = .read q ∧ g.reading = some q ∧ g.speed = 30000000 / q
  | .read q => g.capture = .read q ∧ g.reading = none ∧ g.speed = 0
  | .none => g.capture = .none ∧ g.reading = none ∧ g.speed = 0

theorem readStep_stallStep_taken (f : Fan) (n : Nat) : ReadingTaken f (f.readStep.stallStep n).1 := by
  rw [ReadingTaken, stallStep_capture, stallStep_reading, stallStep_speed]
  split
  next q h => rw [readStep_unread f h]; exact ⟨rfl, rfl, rfl⟩
  next q h => rw [readStep_read f h]; exact ⟨h, rfl, rfl⟩
  next h => rw [readStep_none f h]; exact ⟨h, rfl, rfl⟩

section Left

variable {u t : State} (h : FansLeft u t) (n : Fin 2)

include h

/-- A fan's record at the period's end: as tested, with the forced flags, the request and some grant. -/
theorem FansLeft.fan_eq : ∃ d, t.fc.fans[n] =
    { testedFan u n with
      forcedTrip := decide (∃ m : Fin 4, u.zc.zones[m].state = .tripped), forcedOverheat := decide (0 < u.zc.dwell)
      forcedExhaust := u.exhaustE.value.isNone, request := (requestedFan u n).request, grant := d } := by
  obtain ⟨d, hd⟩ := h.fan n
  refine ⟨d, hd.trans ?_⟩
  rw [requestedFan, requestStep_eq]

theorem FansLeft.reading : ReadingTaken u.fc.fans[n] t.fc.fans[n] := by
  obtain ⟨d, hd⟩ := h.fan_eq n
  rw [hd]
  exact readStep_stallStep_taken { u.fc.fans[n] with applied := fanSettingsAt u.sst.table n.val } n.val

theorem FansLeft.tested :
    StallTested ({ u.fc.fans[n] with applied := fanSettingsAt u.sst.table n.val } : Fan).threshold u.fc.fans[n]
      t.fc.fans[n] := by
  obtain ⟨d, hd⟩ := h.fan_eq n
  rw [hd]
  exact readStep_stallStep_tested { u.fc.fans[n] with applied := fanSettingsAt u.sst.table n.val } n.val

theorem FansLeft.tach : t.fc.fans[n].tach = u.fc.fans[n].tach := by
  obtain ⟨d, hd⟩ := h.fan_eq n
  rw [hd]
  exact testedFan_tach u n

theorem FansLeft.forcedTrip : t.fc.fans[n].forcedTrip = true ↔ ∃ m : Fin 4, u.zc.zones[m].state = .tripped := by
  obtain ⟨d, hd⟩ := h.fan_eq n
  rw [hd]
  exact decide_eq_true_iff

theorem FansLeft.forcedOverheat : t.fc.fans[n].forcedOverheat = true ↔ 0 < u.zc.dwell := by
  obtain ⟨d, hd⟩ := h.fan_eq n
  rw [hd]
  exact decide_eq_true_iff

theorem FansLeft.forcedExhaust :
    t.fc.fans[n].forcedExhaust = true ↔ t.sfe[5].status = .failed ∨ t.sfe[5].filled = false := by
  obtain ⟨d, hd⟩ := h.fan_eq n
  rw [hd, h.sfe]
  exact Option.isNone_iff_eq_none.trans (value_eq_none_iff _)

/-- A forced fan asks for its full duty (R52). -/
theorem FansLeft.request_forced (hforced : t.fc.fans[n].forcedTrip = true ∨ t.fc.fans[n].forcedOverheat = true
    ∨ t.fc.fans[n].forcedExhaust = true) : t.fc.fans[n].request = 256 := by
  obtain ⟨d, hd⟩ := h.fan_eq n
  rw [hd] at hforced ⊢
  exact requestStep_forced _ _ _ _ _ _ _ (hforced.imp_right (Or.imp_right Option.isNone_iff_eq_none.1))

/-- A fan that is not forced asks for what its mode gives (R53). -/
theorem FansLeft.request_free (htrip : t.fc.fans[n].forcedTrip = false) (hheat : t.fc.fans[n].forcedOverheat = false)
    (hexhaust : t.fc.fans[n].forcedExhaust = false) : t.fc.fans[n].request =
      (testedFan u n).modeRequest u.psq.state.railOn (u.setting 56) (u.setting 57) t.sfe[5].filtered := by
  have hvalue := value_eq_filtered (mt (h.forcedExhaust n).2 (Bool.eq_false_iff.1 hexhaust))
  obtain ⟨d, hd⟩ := h.fan_eq n
  rw [hd] at htrip hheat
  have he : u.exhaustE.value = some t.sfe[5].filtered := by rw [← hvalue, h.sfe]; rfl
  rw [hd]
  dsimp only at htrip hheat ⊢
  rw [requestedFan, htrip, hheat, he, requestStep_free]

end Left

/-! ## The clog score that a period leaves -/

/-- A period without the evidence to move the score (R61): a fan is FAILED, or A or E has no value. -/
def ClogHeld (t : State) : Prop :=
  t.fc.fans[0].failed = true ∨ t.fc.fans[1].failed = true ∨ t.sfe[4].status = .failed ∨ t.sfe[4].filled = false
    ∨ t.sfe[5].status = .failed ∨ t.sfe[5].filled = false

/-- The evidence that raises the score (R61): the rail on, both fans granted 192 or more, E above A by setting 58 or more. -/
def ClogEvidence (u t : State) : Prop :=
  u.psq.state.railOn = true ∧ 192 ≤ u.fc.fans[0].grant ∧ 192 ≤ u.fc.fans[1].grant
    ∧ u.setting 58 ≤ t.sfe[5].filtered - t.sfe[4].filtered

theorem testedController_rises (u : State) (a e : Int) :
    clogRises u.psq.state.railOn (testedController u).fans a e (testedController u).clogDiff = true
      ↔ u.psq.state.railOn = true ∧ 192 ≤ u.fc.fans[0].grant ∧ 192 ≤ u.fc.fans[1].grant ∧ u.setting 58 ≤ e - a := by
  have h0 : (testedController u).fans[0].grant = u.fc.fans[0].grant := testedFan_grant u 0
  have h1 : (testedController u).fans[1].grant = u.fc.fans[1].grant := testedFan_grant u 1
  simp only [clogRises, h0, h1, Bool.and_eq_true, decide_eq_true_eq, and_assoc]
  rfl

section Score

variable {u t : State} (h : FansLeft u t)

include h

theorem FansLeft.failed (n : Fin 2) : (testedController u).fans[n].failed = t.fc.fans[n].failed := by
  obtain ⟨d, hd⟩ := h.fan_eq n
  rw [hd, testedController_fan]

theorem FansLeft.score_le (hle : u.fc.clog ≤ 1000) : t.fc.clog ≤ 1000 := by
  rw [h.clog]
  exact clogStep_clog_le hle

theorem FansLeft.score_held (hheld : ClogHeld t) : t.fc.clog = u.fc.clog ∧ t.fc.filterFlag = u.fc.filterFlag := by
  have h0 : (testedController u).fans[0].failed = t.fc.fans[0].failed := h.failed 0
  have h1 : (testedController u).fans[1].failed = t.fc.fans[1].failed := h.failed 1
  have hstep : scoredController u = testedController u := by
    refine clogStep_held ?_
    rw [h0, h1, value_eq_none_iff, value_eq_none_iff, State.intakeA, State.exhaustE, ← h.sfe, or_assoc]
    exact hheld
  rw [h.clog, h.filterFlag, hstep]
  exact ⟨rfl, rfl⟩

/-- Where nothing holds the score, the clog step reads two fans that work and two values. -/
theorem FansLeft.score_free (hfree : ¬ ClogHeld t) :
    (testedController u).fans[0].failed = false ∧ (testedController u).fans[1].failed = false
      ∧ scoredController u = ((testedController u).clogStep u.psq.state.railOn (some t.sfe[4].filtered)
        (some t.sfe[5].filtered)).1 := by
  have h0 : (testedController u).fans[0].failed = t.fc.fans[0].failed := h.failed 0
  have h1 : (testedController u).fans[1].failed = t.fc.fans[1].failed := h.failed 1
  simp only [ClogHeld, not_or, Bool.not_eq_true] at hfree
  obtain ⟨hf0, hf1, ha, ha', he, he'⟩ := hfree
  have hav : u.intakeA.value = some t.sfe[4].filtered := by
    rw [State.intakeA, ← h.sfe]; exact value_eq_filtered (not_or.2 ⟨ha, ha'⟩)
  have hev : u.exhaustE.value = some t.sfe[5].filtered := by
    rw [State.exhaustE, ← h.sfe]; exact value_eq_filtered (not_or.2 ⟨he, he'⟩)
  rw [h0, h1, scoredController, hav, hev]
  exact ⟨hf0, hf1, rfl⟩

theorem FansLeft.score_rises (hfree : ¬ ClogHeld t) (hrise : ClogEvidence u t) :
    t.fc.clog = min 1000 (u.fc.clog + 1) ∧ t.fc.filterFlag = (u.fc.filterFlag || decide (999 ≤ u.fc.clog)) := by
  obtain ⟨h0, h1, hstep⟩ := h.score_free hfree
  rw [h.clog, h.filterFlag, hstep]
  exact clogStep_rises h0 h1 ((testedController_rises u _ _).2 hrise)

theorem FansLeft.score_falls (hfree : ¬ ClogHeld t) (hfall : ¬ ClogEvidence u t) :
    t.fc.clog = u.fc.clog - 1 ∧ t.fc.filterFlag = u.fc.filterFlag := by
  obtain ⟨h0, h1, hstep⟩ := h.score_free hfree
  have hrises := Bool.eq_false_iff.2 (mt (testedController_rises u t.sfe[4].filtered t.sfe[5].filtered).1 hfall)
  rw [h.clog, h.filterFlag, hstep, clogStep_falls h0 h1 hrises]
  exact ⟨rfl, rfl⟩

end Score

/-! ## The command -/

/-- A control period that is due answers what the period leaves, but for KPS, RPU and the window. -/
theorem exec_controlPeriod_keeps (dt : Nat) (ms : Vector Measurement 6) (turn : PsqTurn) {s : State} {p : Nat}
    (hr : s.resetting = none) (hp : s.period = some p) (hdue : p + 250000 ≤ s.clock + dt) :
    ∃ t, exec (.controlPeriod dt ms turn) s = .next t
      ∧ Keeps { kps := true, rpu := true, mem := true } ((s.elapse dt).controlPeriod ms turn) t := by
  have hreached : (s.elapse dt).reached (s.elapse dt).period Config.controlPeriodUs = true := by
    simp only [State.reached, elapse_period, hp]
    exact decide_eq_true hdue
  refine ⟨_, ?_, act_controlPeriod_keeps { period := true } ms turn (s.elapse dt)⟩
  rw [exec_controlPeriod]
  exact commandIf_due hr hreached

/-- A due control period answers what FC's work on the state it found leaves (R51). -/
theorem exec_controlPeriod_left (dt : Nat) (ms : Vector Measurement 6) (turn : PsqTurn) {s : State} {p : Nat}
    (hr : s.resetting = none) (hp : s.period = some p) (hdue : p + 250000 ≤ s.clock + dt) :
    ∃ t, exec (.controlPeriod dt ms turn) s = .next t ∧ FansLeft (atFans ms turn (s.elapse dt)) t
      ∧ (atFans ms turn (s.elapse dt)).psq.state.railOn = railRead turn s t
      ∧ (s.noOverheatDue → (∀ m : Fin 4, t.zc.zones[m].state = (atFans ms turn (s.elapse dt)).zc.zones[m].state)
        ∧ t.zc.dwell = (atFans ms turn (s.elapse dt)).zc.dwell) := by
  obtain ⟨t, ht, k⟩ := exec_controlPeriod_keeps dt ms turn hr hp hdue
  refine ⟨t, ht, (controlPeriod_left ms turn _).keeps k rfl rfl, ?rail, fun h => ?zones⟩
  case rail =>
    rw [atFans_railOn]
    cases turn with
    | beforeAllocation => rw [railRead, railRead, k.psq rfl]
    | afterAllocation => rfl
  case zones =>
    rw [k.zc rfl]
    exact controlPeriod_zones turn h

/-! ## The obligations -/

/-- Settles O16: FC's steps on the state that it finds, which in a period without an overheat has the zones of the period's end. -/
theorem fansAreTested : Obligations.FansAreTested := by
  intro dt ms turn s p hr hp hdue
  obtain ⟨t, ht, hleft, hrail, hzones⟩ := exec_controlPeriod_left dt ms turn hr hp hdue
  have k := atFans_keeps ms turn (s.elapse dt)
  have hsst := k.sst rfl
  have hfc := k.fc rfl
  refine ⟨t, ht, fun n => ⟨?reading, ?test, ?tach, fun hno => ?request⟩⟩
  case reading =>
    have h := hleft.reading n
    rw [hfc] at h
    exact h
  case test =>
    have h := hleft.tested n
    rw [hfc, hsst] at h
    exact h
  case tach => exact (hleft.tach n).trans (by rw [hfc]; rfl)
  case request =>
    obtain ⟨hstate, hdwell⟩ := hzones hno
    refine ⟨?trip, ?heat, hleft.forcedExhaust n, hleft.request_forced n, fun h1 h2 h3 => ?free⟩
    case trip => simpa only [hstate] using hleft.forcedTrip n
    case heat => rw [hdwell]; exact hleft.forcedOverheat n
    case free =>
      have hreq := hleft.request_free n h1 h2 h3
      have happlied := testedFan_applied (atFans ms turn (s.elapse dt)) n
      rw [atFans_setting, atFans_setting, setting_elapse, setting_elapse, hrail] at hreq
      rw [hsst, elapse_sst] at happlied
      have hmode {m : Int} (hm : s.setting (40 + 8 * n.val) = m) :
          (testedFan (atFans ms turn (s.elapse dt)) n).applied.mode = m.toNat := by rw [happlied, ← hm]; rfl
      rw [hreq]
      refine ⟨fun hm => modeRequest_off _ _ _ _ (hmode hm), fun hm => ?fixed,
        fun hm (hoff : railRead turn s t = false) => ?stir, fun hm (hon : railRead turn s t = true) => ?auto⟩
      case fixed => rw [modeRequest_fixed _ _ _ _ (hmode hm), happlied]; rfl
      case stir => rw [hoff, modeRequest_stir _ _ _ (hmode hm), happlied]; rfl
      case auto =>
        rw [hon, modeRequest_auto _ _ _ (hmode hm), happlied]
        exact ⟨fun hlow => congrArg _ (autoCurve_below hlow), autoCurve_above, autoCurve_between⟩

/-- Settles O17: the clog step on the fans as tested, at the channels' values. -/
theorem clogScoreFollowsTheAirflow : Obligations.ClogScoreFollowsTheAirflow := by
  intro dt ms turn s p hr hp hdue
  obtain ⟨t, ht, hleft, hrail, -⟩ := exec_controlPeriod_left dt ms turn hr hp hdue
  have hfc : (atFans ms turn (s.elapse dt)).fc = s.fc := (atFans_keeps ms turn _).fc rfl
  have hdiff : (atFans ms turn (s.elapse dt)).setting 58 = s.setting 58 := atFans_setting ms turn _ 58
  have hle := hleft.score_le
  have hheld := hleft.score_held
  have hrises := hleft.score_rises
  have hfalls := hleft.score_falls
  rw [ClogEvidence, hrail, hdiff, hfc] at hrises hfalls
  rw [hfc] at hle hheld
  refine ⟨t, ht, hle, ?_⟩
  by_cases h : ClogHeld t
  · exact (if_pos h).mpr (hheld h)
  refine (if_neg h).mpr ?_
  by_cases hrise : railRead turn s t = true ∧ 192 ≤ s.fc.fans[0].grant ∧ 192 ≤ s.fc.fans[1].grant
      ∧ s.setting 58 ≤ t.sfe[5].filtered - t.sfe[4].filtered
  · exact (if_pos hrise).mpr (hrises h hrise)
  · exact (if_neg hrise).mpr (hfalls h hrise)

end Sys2Proof.FanControl
end

section
/-! PROOFS. The exchange (O57), first part: what handing a report to RPU does. Whatever the drain and the list do, the view stays,
the window changes inside the queue alone, and RPU keeps its bounds (R184 to R189). -/

namespace Sys2Proof.ExchangeWatch

open Sys2Proof Sys2Proof.Machine Sys2Proof.Laws

/-! ## Words and bytes of the window -/

theorem word_eq_of_bytes {m n : Memory} {w : Nat} (h : ∀ a, 4 * w ≤ a → a < 4 * w + 4 → n.byte a = m.byte a) :
    n.word w = m.word w := by
  unfold Memory.word
  rw [h (4 * w) (by omega) (by omega), h (4 * w + 1) (by omega) (by omega), h (4 * w + 2) (by omega) (by omega),
    h (4 * w + 3) (by omega) (by omega)]

theorem report_words_length (r : Report) : r.words.length = 4 := rfl

/-! ## One record written -/

section Write

variable {s : State} {q : QueueView} (r : Report)

theorem queueSpan_some (h : s.rpu.view = some q) : s.queueSpan = (q.base, q.base + (q.mask + 1) * 4) := by
  simp [State.queueSpan, h]

theorem queueSpan_eq {t : State} (h : t.rpu.view = s.rpu.view) : t.queueSpan = s.queueSpan := by
  simp only [State.queueSpan, h]

theorem queueRoom_iff : s.queueRoom = true ↔
    ∃ q, s.rpu.view = some q ∧ (s.rpu.writeIndex - s.reportRead).toNat < q.mask + 1 := by
  unfold State.queueRoom
  cases s.rpu.view with
  | none => simp
  | some q => simp

theorem reportSlot_some (h : s.rpu.view = some q) : s.reportSlot = q.base + (s.rpu.writeIndex.toNat &&& q.mask) * 4 := by
  simp [State.reportSlot, h]

/-- The slot lies in the queue, whatever the mask (R184). -/
theorem reportSlot_in_span (h : s.rpu.view = some q) :
    q.base ≤ s.reportSlot ∧ s.reportSlot + 4 ≤ q.base + (q.mask + 1) * 4 := by
  have hle : s.rpu.writeIndex.toNat &&& q.mask ≤ q.mask := Nat.and_le_right
  rw [reportSlot_some h]
  omega

theorem writeReport_mem : (s.writeReport r).mem = s.mem.setWords s.reportSlot r.words := by
  unfold State.writeReport
  exact (raiseAttached_keeps _ _).mem rfl

/-- NOTICE once REPORT has been raised in an attached exchange, as it was in a detached one (R188). -/
theorem writeReport_rpu : (s.writeReport r).rpu =
    if s.exc.state = .attached then
      { s.rpu with
        writeIndex := s.rpu.writeIndex + 1, pending := s.rpu.pending ||| noticeReport
        attn := attnOf (s.rpu.pending ||| noticeReport) s.exc.enable }
    else { s.rpu with writeIndex := s.rpu.writeIndex + 1 } := by
  unfold State.writeReport State.raiseAttached State.raise
  by_cases h : s.exc.state = .attached <;> simp [h]

theorem writeReport_view : (s.writeReport r).rpu.view = s.rpu.view := by rw [writeReport_rpu]; split <;> rfl
theorem writeReport_writeIndex : (s.writeReport r).rpu.writeIndex = s.rpu.writeIndex + 1 := by
  rw [writeReport_rpu]; split <;> rfl
theorem writeReport_holding : (s.writeReport r).rpu.holding = s.rpu.holding := by rw [writeReport_rpu]; split <;> rfl
theorem writeReport_discards : (s.writeReport r).rpu.discards = s.rpu.discards := by rw [writeReport_rpu]; split <;> rfl
theorem writeReport_created : (s.writeReport r).rpu.created = s.rpu.created := by rw [writeReport_rpu]; split <;> rfl

end Write

/-! ## What handing over reports can do -/

/-- RPU's bounds: its queue above word 255 and no fuller than its size (R168, R184), ATTN after NOTICE and NOTICE ENABLE (R189),
the list and the discards in their sizes (R185). -/
def RpuOk (s : State) : Prop :=
  (∀ q, s.rpu.view = some q → 256 ≤ q.base ∧ (s.rpu.writeIndex - s.reportRead).toNat ≤ q.mask + 1)
  ∧ s.rpu.attn = decide (s.rpu.pending &&& s.exc.enable ≠ 0#4) ∧ s.rpu.holding.length ≤ 16 ∧ s.rpu.discards ≤ 65535

/-- `t` comes of `s` by reports handed to RPU: the view stays, the bytes outside the queue stand, RPU keeps its bounds. -/
structure Reported (s t : State) : Prop where
  keeps : Keeps { rpu := true, mem := true } s t
  view : t.rpu.view = s.rpu.view
  bytes : ∀ a, a < 4 * s.queueSpan.1 ∨ 4 * s.queueSpan.2 ≤ a → t.mem.byte a = s.mem.byte a
  ok : RpuOk s → RpuOk t

theorem Reported.refl (s : State) : Reported s s := ⟨.refl _ s, rfl, fun _ _ => rfl, id⟩

theorem Reported.trans {s t u : State} (h : Reported s t) (k : Reported t u) : Reported s u where
  keeps := h.keeps.trans k.keeps
  view := k.view.trans h.view
  bytes a ha := (k.bytes a (by rw [queueSpan_eq h.view]; exact ha)).trans (h.bytes a ha)
  ok := k.ok ∘ h.ok

/-- The words below the queue stand. -/
theorem Reported.word {s t : State} (h : Reported s t) (hq : ∀ q, s.rpu.view = some q → 256 ≤ q.base) {w : Nat} (hw : w < 256) :
    t.mem.word w = s.mem.word w := by
  refine word_eq_of_bytes fun a _ ha => h.bytes a ?_
  cases hv : s.rpu.view with
  | none => simp [State.queueSpan, hv]
  | some q => have := hq q hv; rw [queueSpan_some hv]; left; dsimp only; omega

/-- RPU's record changed in what its view and index do not show. -/
theorem reported_set_rpu {s : State} {x : ReportUnit} (hview : x.view = s.rpu.view) (hindex : x.writeIndex = s.rpu.writeIndex)
    (hattn : x.attn = s.rpu.attn) (hpending : x.pending = s.rpu.pending)
    (hholding : s.rpu.holding.length ≤ 16 → x.holding.length ≤ 16)
    (hdiscards : s.rpu.discards ≤ 65535 → x.discards ≤ 65535) : Reported s { s with rpu := x } where
  keeps := Keeps.set_rpu (.refl _ s) rfl x
  view := hview
  bytes _ _ := rfl
  ok := by
    rintro ⟨hq, ha, hh, hd⟩
    refine ⟨fun q h => ?_, ?_, hholding hh, hdiscards hd⟩
    · have := hq q (hview.symm.trans h)
      simpa only [State.reportRead, State.word, hindex] using this
    · simpa only [hattn, hpending] using ha

theorem toNat_succ_le (a : BitVec 16) : (a + 1).toNat ≤ a.toNat + 1 := by
  rw [BitVec.toNat_add]
  exact Nat.mod_le _ _

theorem attnOf_eq (p e : BitVec 4) : attnOf p e = decide (p &&& e ≠ 0#4) := rfl

/-- A record written where there is room. -/
theorem writeReport_reported {s : State} (h : s.queueRoom = true) (r : Report) : Reported s (s.writeReport r) := by
  obtain ⟨q, hv, hroom⟩ := queueRoom_iff.1 h
  obtain ⟨hlo, hhi⟩ := reportSlot_in_span hv
  have hbytes : ∀ a, a < 4 * s.queueSpan.1 ∨ 4 * s.queueSpan.2 ≤ a →
      (s.writeReport r).mem.byte a = s.mem.byte a := by
    intro a ha
    rw [queueSpan_some hv] at ha
    dsimp only at ha
    rw [writeReport_mem]
    exact byte_setWords_frame _ _ _ _ (by rw [report_words_length]; omega)
  refine ⟨writeReport_keeps r s, writeReport_view r, hbytes, ?_⟩
  rintro ⟨hq, ha, hh, hd⟩
  refine ⟨fun p hp => ?_, ?_, by rwa [writeReport_holding], by rwa [writeReport_discards]⟩
  · rw [writeReport_view, hv] at hp
    cases hp
    have hbase := (hq q hv).1
    have hread : (s.writeReport r).reportRead = s.reportRead := by
      refine congrArg lowHalf (word_eq_of_bytes fun a _ ha => hbytes a (.inl ?_))
      rw [queueSpan_some hv]; dsimp only; omega
    rw [hread, writeReport_writeIndex, show s.rpu.writeIndex + 1 - s.reportRead = s.rpu.writeIndex - s.reportRead + 1 by grind]
    have hsucc := toNat_succ_le (s.rpu.writeIndex - s.reportRead)
    exact ⟨hbase, by omega⟩
  · rw [(writeReport_keeps r s).exc rfl, writeReport_rpu]
    split
    · exact attnOf_eq _ _
    · exact ha

theorem drainHeld_reported (l : List Report) (s : State) (hl : s.rpu.holding.length ≤ 16 → l.length ≤ 16) :
    Reported s (State.drainHeld l s) := by
  induction l generalizing s with
  | nil => exact reported_set_rpu rfl rfl rfl rfl (fun _ => Nat.zero_le _) id
  | cons r l ih =>
    unfold State.drainHeld
    split
    · rename_i hroom
      refine (writeReport_reported hroom r).trans (ih _ fun h => ?_)
      rw [writeReport_holding] at h
      exact (Nat.le_succ _).trans (hl h)
    · exact reported_set_rpu rfl rfl rfl rfl hl id

theorem writeOverflow_reported {s : State} (h : s.queueRoom = true) : Reported s s.writeOverflow :=
  (reported_set_rpu (x := { s.rpu with created := s.rpu.created + 1, discards := 0 }) rfl rfl rfl rfl id fun _ => Nat.zero_le _).trans
    (writeReport_reported (s := { s with rpu := { s.rpu with created := s.rpu.created + 1, discards := 0 } }) h _)

/-- The held reports written while there is room (R186), the first part of a drain. -/
def heldDrained (s : State) : State := if s.rpu.view.isSome then State.drainHeld s.rpu.holding s else s

theorem drain_eq (s : State) : s.drain =
    if (heldDrained s).rpu.holding.isEmpty && decide (0 < (heldDrained s).rpu.discards) && (heldDrained s).queueRoom then
      (heldDrained s).writeOverflow
    else heldDrained s := rfl

theorem heldDrained_reported (s : State) : Reported s (heldDrained s) := by
  unfold heldDrained
  split
  · exact drainHeld_reported _ s id
  · exact .refl s

theorem drain_reported (s : State) : Reported s s.drain := by
  rw [drain_eq]
  split
  · rename_i h
    simp only [Bool.and_eq_true] at h
    exact (heldDrained_reported s).trans (writeOverflow_reported h.2)
  · exact heldDrained_reported s

/-! ## The holding list -/

theorem closePress_length {src : Nat} {l l' : List Report} (h : closePress src l = some l') : l'.length < l.length := by
  induction l generalizing l' with
  | nil => cases h
  | cons r l ih =>
    unfold closePress at h
    split at h
    · split at h
      · cases h; exact Nat.lt_succ_self _
      · cases h
    · obtain ⟨m, hm, rfl⟩ := Option.map_eq_some_iff.1 h
      exact Nat.succ_lt_succ (ih hm)

theorem dropRepeat_length {l l' : List Report} (h : dropRepeat l = some l') : l'.length < l.length := by
  induction l generalizing l' with
  | nil => cases h
  | cons r l ih =>
    unfold dropRepeat at h
    split at h
    · cases h; exact Nat.lt_succ_self _
    · obtain ⟨m, hm, rfl⟩ := Option.map_eq_some_iff.1 h
      exact Nat.succ_lt_succ (ih hm)

theorem dropPair_length {l l' : List Report} (h : dropPair l = some l') : l'.length < l.length := by
  induction l generalizing l' with
  | nil => cases h
  | cons r l ih =>
    unfold dropPair at h
    split at h
    · rename_i m hm
      cases h
      split at hm
      · exact (closePress_length hm).trans (Nat.lt_succ_self _)
      · cases hm
    · obtain ⟨m, hm, rfl⟩ := Option.map_eq_some_iff.1 h
      exact Nat.succ_lt_succ (ih hm)

/-- A report that joins the list leaves it no longer than 16 (R185). -/
theorem takeIn_length {held : List Report} (r : Report) (h : held.length ≤ 16) : (takeIn held r).1.length ≤ 16 := by
  unfold takeIn
  split
  · rename_i hroom
    simp only [List.length_append, List.length_singleton]
    exact hroom
  split
  · exact h
  split
  · rename_i l hl
    have := dropRepeat_length hl
    simp only [List.length_append, List.length_singleton]; omega
  split
  · rename_i l hl
    have := dropPair_length hl
    simp only [List.length_append, List.length_singleton]; omega
  · exact h

theorem holdReport_reported (r : Report) (s : State) : Reported s (s.holdReport r) :=
  reported_set_rpu rfl rfl rfl rfl (takeIn_length r) fun _ => Nat.min_le_left _ _

/-! ## Reports created -/

/-- RPU's creation count one higher (R182). -/
def counted (s : State) : State := { s with rpu := { s.rpu with created := s.rpu.created + 1 } }

theorem createReport_eq (n : ReportBody) (s : State) : s.createReport n =
    if s.drain.rpu.holding.isEmpty && s.drain.rpu.discards == 0 && s.drain.queueRoom then
      (counted s.drain).writeReport (s.drain.numbered n)
    else (counted s.drain).holdReport (s.drain.numbered n) := rfl

theorem createReport_reported (n : ReportBody) (s : State) : Reported s (s.createReport n) := by
  have hc : Reported s (counted s.drain) := (drain_reported s).trans (reported_set_rpu rfl rfl rfl rfl id id)
  rw [createReport_eq]
  split
  · rename_i h
    simp only [Bool.and_eq_true] at h
    exact hc.trans (writeReport_reported (s := counted s.drain) h.2 _)
  · exact hc.trans (holdReport_reported _ _)

theorem createReports_reported (l : List ReportBody) (s : State) : Reported s (s.createReports l) := by
  unfold State.createReports
  induction l generalizing s with
  | nil => exact .refl s
  | cons n l ih => exact (createReport_reported n s).trans (ih _)

end Sys2Proof.ExchangeWatch
end

section
/-! PROOFS. The exchange (O57), second part: every operation inside a step but the commits and the start-up keeps the exchange in
order, the window's words below 64, and what EXC shows of SST (`Orderly`), one lemma an operation in the order of Touch.lean. -/

namespace Sys2Proof.ExchangeWatch

open Sys2Proof Sys2Proof.Machine Sys2Proof.Laws

/-! ## The invariant by its parts -/

/-- The exchange in order but for the bound on the report queue's use (R184), which a commit of word 39 can break. -/
structure ExchangeBut (s : State) : Prop where
  view : s.rpu.view = (if s.exc.state = .attached then
    some { base := s.exc.layout.reportBase, mask := s.exc.layout.reportMask } else none)
  layout : s.exc.state = .attached → layoutCheck 1#32 s.exc.layout = .ok
  hand : ∀ h, s.exc.inHand = some h → h.discard = false → s.exc.state = .attached
    ∧ s.exc.layout.orderBase ≤ h.entry ∧ h.entry + 8 ≤ s.exc.layout.orderBase + (s.exc.layout.orderMask + 1) * 8
  attn : s.rpu.attn = decide (s.rpu.pending &&& s.exc.enable ≠ 0#4)
  holding : s.rpu.holding.length ≤ 16
  discards : s.rpu.discards ≤ 65535
  history : s.hbw.history.length ≤ 8

theorem exchangeOk_iff (s : State) : ExchangeOk s ↔ ExchangeBut s
    ∧ (s.exc.state = .attached → (s.rpu.writeIndex - s.reportRead).toNat ≤ s.exc.layout.reportMask + 1) := by
  constructor
  · rintro ⟨hview, hlayout, hhand, hattn, hhold, hdisc, hhist⟩
    exact ⟨⟨hview, fun h => (hlayout h).1, hhand, hattn, hhold, hdisc, hhist⟩, fun h => (hlayout h).2⟩
  · rintro ⟨⟨hview, hlayout, hhand, hattn, hhold, hdisc, hhist⟩, hindex⟩
    exact ⟨hview, fun h => ⟨hlayout h, hindex h⟩, hhand, hattn, hhold, hdisc, hhist⟩

/-- What an attach has accepted (R168). -/
theorem layoutCheck_ok {v : Word} {l : Layout} (h : layoutCheck v l = .ok) :
    v = 1#32 ∧ l.orderMask + 1 ∈ queueSizes ∧ l.reportMask + 1 ∈ queueSizes ∧ misplaced l.orderBase (l.orderMask + 1) 8 = false
      ∧ misplaced l.reportBase (l.reportMask + 1) 4 = false ∧ spansMeet l.orderSpan l.reportSpan = false := by
  unfold layoutCheck at h
  split at h; · cases h
  split at h; · cases h
  split at h; · cases h
  split at h; · cases h
  split at h; · cases h
  split at h; · cases h
  simp_all

theorem not_misplaced {base size width : Nat} (h : misplaced base size width = false) :
    256 ≤ base ∧ base + size * width ≤ 2048 := by
  simp only [misplaced, Bool.or_eq_false_iff, decide_eq_false_iff_not] at h
  obtain ⟨⟨hlow, -⟩, hhigh⟩ := h
  omega

/-- Both queues of an accepted layout lie above word 255. -/
theorem layout_bases {v : Word} {l : Layout} (h : layoutCheck v l = .ok) : 256 ≤ l.orderBase ∧ 256 ≤ l.reportBase := by
  obtain ⟨-, -, -, horder, hreport, -⟩ := layoutCheck_ok h
  exact ⟨(not_misplaced horder).1, (not_misplaced hreport).1⟩

section Parts

variable {s t : State}

theorem view_attached (h : ExchangeBut s) {q : QueueView} (hq : s.rpu.view = some q) :
    s.exc.state = .attached ∧ q = { base := s.exc.layout.reportBase, mask := s.exc.layout.reportMask } := by
  have hv := h.view
  rw [hq] at hv
  split at hv
  · rename_i ha; exact ⟨ha, Option.some.inj hv⟩
  · cases hv

theorem queue_above (h : ExchangeBut s) {q : QueueView} (hq : s.rpu.view = some q) : 256 ≤ q.base := by
  obtain ⟨ha, rfl⟩ := view_attached h hq
  exact (layout_bases (h.layout ha)).2

theorem rpuOk_of_exchangeOk (h : ExchangeOk s) : RpuOk s := by
  obtain ⟨hb, hindex⟩ := (exchangeOk_iff s).1 h
  refine ⟨fun q hq => ⟨queue_above hb hq, ?_⟩, hb.attn, hb.holding, hb.discards⟩
  obtain ⟨ha, rfl⟩ := view_attached hb hq
  exact hindex ha

/-- The invariant where RPU keeps its view and its bounds, EXC its state, layout and NOTICE ENABLE, and no order to be answered
has come into hand. -/
theorem exchangeOk_of_rpuOk (h : ExchangeOk s) (hok : RpuOk t) (hview : t.rpu.view = s.rpu.view)
    (hstate : t.exc.state = s.exc.state) (hlayout : t.exc.layout = s.exc.layout)
    (hhand : ∀ h, t.exc.inHand = some h → h.discard = false → ∃ g, s.exc.inHand = some g ∧ g.discard = false ∧ g.entry = h.entry)
    (hhistory : t.hbw.history.length ≤ 8) : ExchangeOk t := by
  obtain ⟨hb, -⟩ := (exchangeOk_iff s).1 h
  obtain ⟨hqueue, hattn, hholding, hdiscards⟩ := hok
  have htview := hview.trans hb.view
  rw [← hstate, ← hlayout] at htview
  refine (exchangeOk_iff t).2 ⟨⟨htview, ?_, ?_, hattn, hholding, hdiscards, hhistory⟩, fun ha => ?_⟩
  · rw [hstate, hlayout]; exact hb.layout
  · intro g hg hd
    obtain ⟨g', hg', hd', he⟩ := hhand g hg hd
    rw [hstate, hlayout, ← he]
    exact hb.hand g' hg' hd'
  · rw [if_pos ha] at htview
    exact (hqueue _ htview).2

end Parts

/-! ## What an operation inside a step leaves -/

/-- After an operation inside a step: the exchange in order, the words below 64 as they were, the settings source the same, and
no load begun; where the exchange was DETACHED it still is, and no store was begun either. -/
structure Kept (s t : State) : Prop where
  ok : ExchangeOk t
  low : ∀ w < 64, t.mem.word w = s.mem.word w
  resetting : t.resetting = s.resetting
  source : t.sst.source = s.sst.source
  loading : t.sst.store = .loading → s.sst.store = .loading
  detached : s.exc.state = .detached → t.exc.state = .detached ∧ t.sst.store = s.sst.store

/-- An operation keeps the exchange in order. -/
def Orderly (s t : State) : Prop := ExchangeOk s → Kept s t

theorem Orderly.refl (s : State) : Orderly s s := fun h => ⟨h, fun _ _ => rfl, rfl, rfl, id, fun h => ⟨h, rfl⟩⟩

theorem Orderly.trans {s t u : State} (h : Orderly s t) (k : Orderly t u) : Orderly s u := fun hs =>
  have ht := h hs
  have hu := k ht.ok
  { ok := hu.ok
    low := fun w hw => (hu.low w hw).trans (ht.low w hw)
    resetting := hu.resetting.trans ht.resetting
    source := hu.source.trans ht.source
    loading := ht.loading ∘ hu.loading
    detached := fun hd =>
      have hd' := ht.detached hd
      have hd'' := hu.detached hd'.1
      ⟨hd''.1, hd''.2.trans hd'.2⟩ }

theorem guarded_orderly (c : State → Bool) (f : State → State) (s : State) (h : Orderly s (f s)) : Orderly s (s.guarded c f) := by
  unfold State.guarded
  split
  · exact h
  · exact .refl s

theorem fold_orderly {α : Type} (f : State → α → State) (h : ∀ s x, Orderly s (f s x)) (l : List α) (s : State) :
    Orderly s (l.foldl f s) := by
  induction l generalizing s with
  | nil => exact .refl s
  | cons x l ih => exact (h s x).trans (ih _)

theorem eachPosition_orderly (f : Position → State → State) (h : ∀ p s, Orderly s (f p s)) (s : State) :
    Orderly s (s.eachPosition f) := fold_orderly _ (fun s p => h p s) _ s

/-! ## Operations beside the exchange -/

/-- The blocks of which the exchange's invariant and the anchor read nothing. -/
def aside : Blocks := { sfe := true, zc := true, la := true, fc := true, psq := true, kps := true, ind := true, part := true }

/-- The same blocks with HBW, whose list of records alone is bounded (R110). -/
def asideHbw : Blocks := { aside with hbw := true }

theorem orderly_of_hbw {s t : State} (k : Keeps asideHbw s t) (h : s.hbw.history.length ≤ 8 → t.hbw.history.length ≤ 8) :
    Orderly s t := fun hs =>
  have hread : t.reportRead = s.reportRead := by simp only [State.reportRead, State.word, k.mem rfl]
  have hhistory := ((exchangeOk_iff s).1 hs).1.history
  have hok : RpuOk t := by
    have := rpuOk_of_exchangeOk hs
    simpa only [RpuOk, k.rpu rfl, k.exc rfl, hread] using this
  { ok := exchangeOk_of_rpuOk hs hok (by rw [k.rpu rfl]) (by rw [k.exc rfl]) (by rw [k.exc rfl])
      (fun g hg hd => ⟨g, by rw [← hg, k.exc rfl], hd, rfl⟩) (h hhistory)
    low := fun w _ => by rw [k.mem rfl]
    resetting := k.resetting
    source := by rw [k.sst rfl]
    loading := by rw [k.sst rfl]; exact id
    detached := by rw [k.exc rfl, k.sst rfl]; exact fun h => ⟨h, rfl⟩ }

/-- A change of HBW's phase, timers or marks. -/
theorem orderly_of_watch {s t : State} (k : Keeps asideHbw s t) (h : t.hbw.history = s.hbw.history) : Orderly s t :=
  orderly_of_hbw k (by rw [h]; exact id)

theorem orderly_of_aside {s t : State} (k : Keeps aside s t) : Orderly s t :=
  orderly_of_watch (k.mono (by decide)) (by rw [k.hbw rfl])

theorem setPsq_orderly (s : State) (x : Sequencer) : Orderly s { s with psq := x } :=
  orderly_of_aside (Keeps.set_psq (.refl _ s) rfl x)

theorem setKps_orderly (s : State) (x : Keypad) : Orderly s { s with kps := x } :=
  orderly_of_aside (Keeps.set_kps (.refl _ s) rfl x)

theorem setHbw_orderly (s : State) (x : HeartbeatWatch) (h : x.history = s.hbw.history) : Orderly s { s with hbw := x } :=
  orderly_of_watch (Keeps.set_hbw (.refl _ s) rfl x) h

/-! ## Reports, notices and the detach -/

theorem reported_orderly {s t : State} (h : Reported s t) : Orderly s t := fun hs =>
  have k := h.keeps
  have hb := ((exchangeOk_iff s).1 hs).1
  { ok := exchangeOk_of_rpuOk hs (h.ok (rpuOk_of_exchangeOk hs)) h.view (by rw [k.exc rfl]) (by rw [k.exc rfl])
      (fun g hg hd => ⟨g, by rw [← hg, k.exc rfl], hd, rfl⟩) (by rw [k.hbw rfl]; exact hb.history)
    low := fun w hw => h.word (fun _ => queue_above hb) (by omega)
    resetting := k.resetting
    source := by rw [k.sst rfl]
    loading := by rw [k.sst rfl]; exact id
    detached := by rw [k.exc rfl, k.sst rfl]; exact fun h => ⟨h, rfl⟩ }

theorem createReport_orderly (n : ReportBody) (s : State) : Orderly s (s.createReport n) :=
  reported_orderly (createReport_reported n s)

theorem createReports_orderly (l : List ReportBody) (s : State) : Orderly s (s.createReports l) :=
  reported_orderly (createReports_reported l s)

theorem drain_orderly (s : State) : Orderly s s.drain := reported_orderly (drain_reported s)

/-- EXC and RPU changed with the window standing: in order where the invariant's parts that speak of them hold. -/
theorem orderly_of_exchange {s t : State} (k : Keeps { exc := true, rpu := true } s t) (h : ExchangeOk s → ExchangeOk t)
    (hd : s.exc.state = .detached → t.exc.state = .detached) : Orderly s t := fun hs =>
  { ok := h hs
    low := fun w _ => by rw [k.mem rfl]
    resetting := k.resetting
    source := by rw [k.sst rfl]
    loading := by rw [k.sst rfl]; exact id
    detached := fun h => ⟨hd h, by rw [k.sst rfl]⟩ }

/-- EXC changed in its latches, its counts or its order in hand, the last without an order to be answered more. -/
theorem setExc_orderly (s : State) (x : Exchange) (hstate : x.state = s.exc.state) (hlayout : x.layout = s.exc.layout)
    (henable : x.enable = s.exc.enable)
    (hhand : ∀ h, x.inHand = some h → h.discard = false → ∃ g, s.exc.inHand = some g ∧ g.discard = false ∧ g.entry = h.entry) :
    Orderly s { s with exc := x } :=
  orderly_of_exchange (Keeps.set_exc (.refl _ s) rfl x)
    (fun hs => exchangeOk_of_rpuOk hs
      (by have := rpuOk_of_exchangeOk hs
          simpa only [RpuOk, State.reportRead, State.word, henable] using this)
      rfl hstate hlayout hhand ((exchangeOk_iff s).1 hs).1.history)
    (fun h => hstate.trans h)

theorem setPending_orderly (n : BitVec 4) (s : State) : Orderly s (s.setPending n) :=
  orderly_of_exchange ((setPending_keeps n s).mono (by decide))
    (fun hs => by
      obtain ⟨hq, -, hh, hd⟩ := rpuOk_of_exchangeOk hs
      exact exchangeOk_of_rpuOk hs ⟨hq, attnOf_eq _ _, hh, hd⟩ rfl rfl rfl (fun g hg hd => ⟨g, hg, hd, rfl⟩)
        ((exchangeOk_iff s).1 hs).1.history)
    id

theorem setEnable_orderly (e : BitVec 4) (s : State) : Orderly s (s.setEnable e) :=
  orderly_of_exchange ((setEnable_keeps e s).mono (by decide))
    (fun hs => by
      obtain ⟨hq, -, hh, hd⟩ := rpuOk_of_exchangeOk hs
      exact exchangeOk_of_rpuOk hs ⟨hq, attnOf_eq _ _, hh, hd⟩ rfl rfl rfl (fun g hg hd => ⟨g, hg, hd, rfl⟩)
        ((exchangeOk_iff s).1 hs).1.history)
    id

theorem raise_orderly (n : BitVec 4) (s : State) : Orderly s (s.raise n) := setPending_orderly _ s

theorem raiseAttached_orderly (n : BitVec 4) (s : State) : Orderly s (s.raiseAttached n) := by
  unfold State.raiseAttached
  split
  · exact raise_orderly n s
  · exact .refl s

theorem noticeClear_orderly (s : State) : Orderly s s.noticeClear := (setPending_orderly _ s).trans (setEnable_orderly _ _)

theorem detach_state (r : DetachReason) (s : State) : (s.detach r).exc.state = .detached := by
  unfold State.detach
  split
  · rfl
  · rename_i h
    show s.exc.state = .detached
    cases hs : s.exc.state with
    | detached => rfl
    | attached => exact absurd hs h

/-- A detach restores the exchange's order, whatever the report queue held (R170, R187). -/
theorem detach_exchangeOk (r : DetachReason) {s : State} (h : ExchangeBut s) : ExchangeOk (s.detach r) := by
  have hd := detach_state r s
  refine (exchangeOk_iff _).2 ⟨?_, fun ha => absurd (ha.symm.trans hd) (by decide)⟩
  unfold State.detach at hd ⊢
  split at hd
  · rename_i ha
    rw [if_pos ha]
    refine ⟨rfl, fun h => ?_, fun g hg hg' => ?_, h.attn, h.holding, h.discards, h.history⟩
    · cases h
    · obtain ⟨g0, -, rfl⟩ := Option.map_eq_some_iff.1 hg
      cases hg'
  · rename_i ha
    rw [if_neg ha]
    exact ⟨h.view, h.layout, h.hand, h.attn, h.holding, h.discards, h.history⟩

theorem detach_orderly (r : DetachReason) (s : State) : Orderly s (s.detach r) :=
  orderly_of_exchange (detach_keeps r s) (fun hs => detach_exchangeOk r ((exchangeOk_iff s).1 hs).1) fun _ => detach_state r s

/-! ## The restart history and the watch -/

theorem dropOther_length {l l' : List HistoryRecord} (h : dropOther l = some l') : l'.length < l.length := by
  induction l generalizing l' with
  | nil => cases h
  | cons r l ih =>
    unfold dropOther at h
    split at h
    · obtain ⟨m, hm, rfl⟩ := Option.map_eq_some_iff.1 h
      exact Nat.succ_lt_succ (ih hm)
    · cases h; exact Nat.lt_succ_self _

/-- Room for one record more (R110). -/
theorem makeRoom_length {l : List HistoryRecord} (h : l.length ≤ 8) : (makeRoom l).length ≤ 7 := by
  unfold makeRoom
  split
  · rename_i hroom; exact Nat.le_of_lt_succ hroom
  · cases hd : dropOther l with
    | none => simp only [Option.getD_none, List.length_tail]; omega
    | some m => have := dropOther_length hd; simp only [Option.getD_some]; omega

theorem setHistory_orderly (l : List HistoryRecord) (s : State) (h : s.hbw.history.length ≤ 8 → l.length ≤ 8) :
    Orderly s (s.setHistory l) := by
  have h1 : Orderly s { s with hbw := { s.hbw with history := l, historyUpdates := s.hbw.historyUpdates + 1 } } :=
    orderly_of_hbw (Keeps.set_hbw (.refl _ s) rfl _) h
  refine h1.trans fun hu => ?_
  have k := setWords_keeps 192 (historyWords l)
    { s with hbw := { s.hbw with history := l, historyUpdates := s.hbw.historyUpdates + 1 } }
  have hlow : ∀ w < 64, (State.setWords 192 (historyWords l)
      { s with hbw := { s.hbw with history := l, historyUpdates := s.hbw.historyUpdates + 1 } }).mem.word w = s.mem.word w :=
    fun w hw => word_setWords_frame _ _ _ _ (.inl (by omega))
  have hread : (s.setHistory l).reportRead = s.reportRead := congrArg lowHalf (hlow 39 (by omega))
  refine ⟨exchangeOk_of_rpuOk hu ?_ rfl rfl rfl (fun g hg hd => ⟨g, hg, hd, rfl⟩) ((exchangeOk_iff _).1 hu).1.history,
    hlow, rfl, rfl, id, fun h => ⟨h, rfl⟩⟩
  obtain ⟨hq, hrest⟩ := rpuOk_of_exchangeOk hu
  exact ⟨fun q hv => ⟨(hq q hv).1, hread ▸ (hq q hv).2⟩, hrest⟩

theorem recordFailure_orderly (r : HistoryRecord) (s : State) : Orderly s (s.recordFailure r) := by
  unfold State.recordFailure
  refine (setHistory_orderly (makeRoom s.hbw.history ++ [r]) s fun h => ?_).trans (setHbw_orderly _ _ rfl)
  have := makeRoom_length h
  simp only [List.length_append, List.length_singleton]
  omega

theorem serviceFloor_orderly (s : State) : Orderly s s.serviceFloor :=
  setHistory_orderly _ s (by rw [List.length_map]; exact id)

theorem ageHistory_orderly (s : State) : Orderly s s.ageHistory := by
  unfold State.ageHistory
  split
  · exact setHistory_orderly _ s (by rw [List.length_map]; exact id)
  · exact .refl s

theorem readHistory_length (m : Memory) (n w : Nat) : (readHistory m n w).length ≤ n := by
  induction n generalizing w with
  | zero => exact Nat.le_refl 0
  | succ n ih =>
    unfold readHistory
    split
    · exact Nat.zero_le _
    · exact Nat.succ_le_succ (ih _)

theorem watchOn_orderly (s : State) : Orderly s s.watchOn := setHbw_orderly s _ rfl

theorem watchBooting_orderly (d : Nat) (s : State) : Orderly s (s.watchBooting d) := by
  unfold State.watchBooting
  refine ((setHbw_orderly s _ ?_).trans (createReport_orderly _ _)).trans (setHbw_orderly _ _ ?_) <;> rfl

theorem pinResetHistory_orderly (s : State) : Orderly s s.pinResetHistory := by
  unfold State.pinResetHistory
  refine Orderly.trans (t := _) ?_ ((serviceFloor_orderly _).trans (recordFailure_orderly _ _))
  exact orderly_of_hbw (Keeps.set_hbw (.refl _ s) rfl _) fun _ => readHistory_length _ _ _

/-! ## PSQ -/

theorem mainOff_orderly (s : State) : Orderly s s.mainOff := orderly_of_aside ((mainOff_keeps s).mono (by decide))

theorem takeDown_orderly (b : Bool) (s : State) : Orderly s (s.takeDown b) := by
  have h := ((detach_orderly .hostRestart s).trans (noticeClear_orderly _)).trans
    (setPsq_orderly _ { (s.detach .hostRestart).noticeClear.psq with hostReset := true })
  unfold State.takeDown
  cases b with
  | false => exact h
  | true => exact (h.trans (setPsq_orderly _ _)).trans (mainOff_orderly _)

theorem enter_history (st : SeqState) (s : State) : (s.enter st).hbw.history = s.hbw.history := by
  unfold State.enter State.watchEntered
  cases st <;> rfl

theorem enter_orderly (st : SeqState) (s : State) : Orderly s (s.enter st) :=
  orderly_of_watch ((enter_keeps st s).mono (by decide)) (enter_history st s)

theorem enterHeating_orderly (s : State) : Orderly s s.enterHeating := (setPsq_orderly s _).trans (enter_orderly _ _)

theorem enterStandby_orderly (s : State) : Orderly s s.enterStandby := (setPsq_orderly s _).trans (enter_orderly _ _)

theorem enterPowering_orderly (s : State) : Orderly s s.enterPowering := (enter_orderly .powering s).trans (setPsq_orderly _ _)

theorem enterBooting_orderly (d : Nat) (s : State) : Orderly s (s.enterBooting d) :=
  (setPsq_orderly s _).trans (watchBooting_orderly d _)

theorem enterRestarting_orderly (s : State) : Orderly s s.enterRestarting :=
  ((takeDown_orderly false s).trans (enter_orderly .restarting _)).trans (setPsq_orderly _ _)

theorem enterCycling_orderly (s : State) : Orderly s s.enterCycling :=
  ((takeDown_orderly true s).trans (enter_orderly .cycling _)).trans (setPsq_orderly _ _)

theorem enterHoldoff_orderly (r : HoldoffReason) (s : State) : Orderly s (s.enterHoldoff r) :=
  ((takeDown_orderly true s).trans (enter_orderly .holdoff _)).trans (setPsq_orderly _ _)

theorem enterShutdown_orderly (n : Nat) (s : State) : Orderly s (s.enterShutdown n) :=
  (enter_orderly .shutdown s).trans (setPsq_orderly _ _)

theorem endShutdown_orderly (s : State) : Orderly s s.endShutdown := by
  unfold State.endShutdown
  split
  · exact (takeDown_orderly true s).trans (enterStandby_orderly _)
  · exact enterHoldoff_orderly _ s

/-- What carrying a decision out can do (R77). -/
theorem carryOut_cases (a : Action) (s : State) :
    s.carryOut a = s.enterRestarting ∨ s.carryOut a = s.enterCycling ∨ s.carryOut a = s.enterHoldoff .escalation
      ∨ s.carryOut a = { s with psq := { s.psq with pulse := some s.clock } } ∨ s.carryOut a = s := by
  unfold State.carryOut
  cases s.psq.state <;> cases a <;> simp

theorem carryOut_orderly (a : Action) (s : State) : Orderly s (s.carryOut a) := by
  rcases carryOut_cases a s with h | h | h | h | h <;> rw [h]
  · exact enterRestarting_orderly s
  · exact enterCycling_orderly s
  · exact enterHoldoff_orderly _ s
  · exact setPsq_orderly s _
  · exact .refl s

theorem carryOutHeld_orderly (s : State) : Orderly s s.carryOutHeld := by
  unfold State.carryOutHeld
  split
  · exact .refl s
  · exact (setPsq_orderly s _).trans (carryOut_orderly _ _)

theorem decided_orderly (c : Cause) (s : State) : Orderly s (s.decided c) :=
  (recordFailure_orderly _ s).trans (setHbw_orderly _ _ rfl)

theorem carryOutNow_orderly (a : Action) (s : State) : Orderly s (s.carryOutNow a) :=
  (carryOutHeld_orderly s).trans (carryOut_orderly a _)

theorem fail_orderly (c : Cause) (s : State) : Orderly s (s.fail c) := by
  unfold State.fail
  split
  · dsimp only
    split
    · exact (decided_orderly c s).trans (setPsq_orderly _ _)
    · exact (decided_orderly c s).trans (carryOutNow_orderly _ _)
  · exact .refl s

theorem overheat_orderly (s : State) : Orderly s s.overheat := by
  unfold State.overheat
  split
  · exact ((((recordFailure_orderly _ s).trans (setPsq_orderly _ _)).trans (enter_orderly .shutdown _)).trans
      (setPsq_orderly _ _)).trans (endShutdown_orderly _)
  · exact .refl s

theorem toRunning_orderly (s : State) : Orderly s s.toRunning := by
  unfold State.toRunning
  split
  · exact enter_orderly _ s
  · exact enter_orderly _ s
  all_goals exact .refl s

theorem disarmToRunning_orderly (s : State) : Orderly s s.disarmToRunning := by
  unfold State.disarmToRunning
  split
  · exact enter_orderly _ s
  all_goals exact .refl s

theorem toWarned_orderly (s : State) : Orderly s s.toWarned := by
  unfold State.toWarned
  split
  · exact enter_orderly _ s
  all_goals exact .refl s

theorem wake_orderly (s : State) : Orderly s s.wake := by
  unfold State.wake
  split
  · exact enterHeating_orderly s
  · exact .refl s

theorem serviceRelease_orderly (s : State) : Orderly s s.serviceRelease := by
  unfold State.serviceRelease
  split
  · exact (enterHeating_orderly s).trans (serviceFloor_orderly _)
  · exact .refl s

theorem pgChanged_orderly (l : Bool) (s : State) : Orderly s (s.pgChanged l) := by
  have h : Orderly s { s with psq := { s.psq with pgSeen := l } } := setPsq_orderly s _
  unfold State.pgChanged
  dsimp only
  split
  case h_1 =>
    split
    · split
      · exact h
      · exact h.trans (setPsq_orderly _ _)
    · exact h.trans (setPsq_orderly _ _)
  case h_2 | h_3 | h_4 =>
    split
    · exact h
    · exact h.trans (fail_orderly _ _)
  all_goals exact h

theorem pgTimeout_orderly (s : State) : Orderly s s.pgTimeout := (setPsq_orderly s _).trans (fail_orderly _ _)

theorem pulseEnd_orderly (s : State) : Orderly s s.pulseEnd := by
  unfold State.pulseEnd
  split
  · exact enterBooting_orderly _ s
  · exact (setPsq_orderly s _).trans (fail_orderly _ _)

theorem retryExpiry_orderly (s : State) : Orderly s s.retryExpiry := guarded_orderly _ _ s (enterHeating_orderly s)

theorem psqPeriod_orderly (c : Bool) (s : State) : Orderly s (s.psqPeriod c) := by
  rcases SupplyBudget.psqPeriod_cases s c with ⟨-, h⟩ | h | h | h <;> rw [h]
  · exact overheat_orderly s
  · exact enterPowering_orderly s
  · exact enterHeating_orderly s
  · exact .refl s

theorem deglitchExpiry_orderly (s : State) : Orderly s s.deglitchExpiry := (setPsq_orderly s _).trans (pgChanged_orderly _ _)

/-! ## KPS -/

theorem setKey_orderly (p : Position) (k : Key) (s : State) : Orderly s (s.setKey p k) := setKps_orderly s _

theorem keyReport_orderly (n : ReportBody) (s : State) : Orderly s (s.keyReport n) :=
  (createReport_orderly n s).trans (setKps_orderly _ _)

theorem reportKey_orderly (k : ReportKind) (p : Position) (d : Nat) (s : State) : Orderly s (s.reportKey k p d) :=
  keyReport_orderly _ s

theorem chordTouched_orderly (p : Position) (s : State) : Orderly s (s.chordTouched p) :=
  orderly_of_aside ((chordTouched_keeps p s).mono (by decide))

theorem maskKey_orderly (m : Mask) (p : Position) (s : State) : Orderly s (s.maskKey m p) :=
  ((setKey_orderly p _ s).trans (reportKey_orderly _ p _ _)).trans (chordTouched_orderly p _)

theorem localAction_orderly (p : Position) (s : State) : Orderly s (s.localAction p) := by
  unfold State.localAction
  split
  · split
    · exact wake_orderly s
    · exact orderly_of_aside ((lampTestRequest_keeps s).mono (by decide))
    all_goals exact .refl s
  · exact .refl s

theorem press_orderly (d : Nat) (p : Position) (s : State) : Orderly s (s.press d p) := by
  unfold State.press
  refine Orderly.trans (t := _) ?_ (localAction_orderly p _)
  split
  · exact (setKey_orderly p _ s).trans (reportKey_orderly _ p _ _)
  · exact setKey_orderly p _ s

theorem unmaskKey_orderly (d : Nat) (f : Bool) (p : Position) (s : State) : Orderly s (s.unmaskKey d f p) := by
  unfold State.unmaskKey
  split
  · exact .refl s
  · refine Orderly.trans (t := _) ?_ (chordTouched_orderly p _)
    split
    · exact ((setKey_orderly p _ s).trans (reportKey_orderly _ p d _)).trans (press_orderly 1 p _)
    · exact (setKey_orderly p _ s).trans (reportKey_orderly _ p d _)

theorem keyWentDown_orderly (p : Position) (s : State) : Orderly s (s.keyWentDown p) := by
  unfold State.keyWentDown
  dsimp only
  split
  · split
    · exact (setKey_orderly p _ s).trans (maskKey_orderly _ p _)
    · exact (setKey_orderly p _ s).trans (press_orderly 0 p _)
  all_goals exact setKey_orderly p _ s

theorem keyWentUp_orderly (p : Position) (s : State) : Orderly s (s.keyWentUp p) := by
  unfold State.keyWentUp
  dsimp only
  split
  · exact (setKey_orderly p _ s).trans (unmaskKey_orderly _ _ p _)
  · split
    · exact (setKey_orderly p _ s).trans (maskKey_orderly _ p _)
    · split
      · exact (setKey_orderly p _ s).trans (reportKey_orderly _ p _ _)
      · exact setKey_orderly p _ s
  · exact setKey_orderly p _ s

theorem repeatDelayExpiry_orderly (p : Position) (s : State) : Orderly s (s.repeatDelayExpiry p) :=
  guarded_orderly _ _ s ((setKey_orderly p _ s).trans (reportKey_orderly _ p _ _))

theorem repeatIntervalExpiry_orderly (p : Position) (s : State) : Orderly s (s.repeatIntervalExpiry p) :=
  guarded_orderly _ _ s ((setKey_orderly p _ s).trans (reportKey_orderly _ p _ _))

theorem stuckExpiry_orderly (p : Position) (s : State) : Orderly s (s.stuckExpiry p) :=
  guarded_orderly _ _ s (maskKey_orderly _ p s)

theorem quietExpiry_orderly (p : Position) (s : State) : Orderly s (s.quietExpiry p) :=
  guarded_orderly _ _ s (unmaskKey_orderly _ _ p s)

theorem sendOperator_orderly (s : State) : Orderly s s.sendOperator := by
  unfold State.sendOperator
  split
  · exact setKps_orderly s _
  · exact fail_orderly _ s

theorem operatorExpiry_orderly (p : Position) (s : State) : Orderly s (s.operatorExpiry p) :=
  guarded_orderly _ _ s ((setKey_orderly p _ s).trans (sendOperator_orderly _))

theorem operatorPart_orderly (part : OperatorPart) (p : Position) (s : State) : Orderly s (s.operatorPart part p) := by
  cases part with
  | fire => exact operatorExpiry_orderly p s
  | delay =>
    unfold State.operatorPart State.operatorDelayed
    exact guarded_orderly _ _ s (setKps_orderly s _)
  | arrive =>
    unfold State.operatorPart State.operatorArrives
    dsimp only
    split
    · exact setKps_orderly s _
    · exact (setKps_orderly s _).trans (fail_orderly _ _)

theorem chatterRelease_orderly (s : State) :
    Orderly s (s.eachPosition fun p t => if (t.key p).mask = .chatter then t.unmaskKey 3 true p else t) := by
  refine eachPosition_orderly _ (fun p t => ?_) s
  split
  · exact unmaskKey_orderly 3 true p t
  · exact .refl t

theorem chordFired_orderly (s : State) : Orderly s s.chordFired := by
  unfold State.chordFired
  exact (((((setKps_orderly s _).trans (keyReport_orderly _ _)).trans (setKps_orderly _ _)).trans
    (chatterRelease_orderly _)).trans (serviceRelease_orderly _)).trans (eachPosition_orderly _ operatorExpiry_orderly _)

theorem chordExpiry_orderly (s : State) : Orderly s s.chordExpiry := guarded_orderly _ _ s (chordFired_orderly s)

theorem keypadFollows_orderly (o : SeqState) (s : State) : Orderly s (s.keypadFollows o) := by
  have hoperator (u : State) (h : Orderly s u) (c : Bool) :
      Orderly s (if c then u.eachPosition State.operatorExpiry else u) := by
    split
    · exact h.trans (eachPosition_orderly _ operatorExpiry_orderly u)
    · exact h
  unfold State.keypadFollows
  refine hoperator _ ?_ _
  split
  · exact eachPosition_orderly _ quietExpiry_orderly s
  · exact .refl s

theorem scanPosition_orderly (h : Position → Bool) (p : Position) (s : State) : Orderly s (s.scanPosition h p) := by
  unfold State.scanPosition
  split
  · dsimp only
    split
    · split
      · exact (setKey_orderly p _ s).trans (keyWentDown_orderly p _)
      · exact (setKey_orderly p _ s).trans (keyWentUp_orderly p _)
    · exact setKey_orderly p _ s
  · exact .refl s

theorem activeScan_orderly (raw : BitVec 48) (s : State) : Orderly s (s.activeScan raw) := by
  have hchord (u : State) : Orderly u u.chordAtScan := orderly_of_aside ((chordAtScan_keeps u).mono (by decide))
  have hmode (u : State) : Orderly u u.chooseMode := orderly_of_aside ((chooseMode_keeps u).mono (by decide))
  have hactivity (u : State) (h : Orderly s u) :
      Orderly s (if u.anyDown then { u with kps := { u.kps with activity := some s.clock } } else u) := by
    split
    · exact h.trans (setKps_orderly u _)
    · exact h
  have hscanned := (orderly_of_aside ((storeRaw_keeps raw s).mono (by decide))).trans
    (eachPosition_orderly _ (scanPosition_orderly (s.storeRaw raw).ghost) _)
  exact (hactivity _ (hscanned.trans (hchord _))).trans (hmode _)

/-! ## The control period -/

theorem controlPeriod_orderly (ms : Vector Measurement 6) (t : PsqTurn) (s : State) : Orderly s (s.controlPeriod ms t) := by
  have hmeasure (u : State) : Orderly u (u.measureAll ms) :=
    (orderly_of_aside (Keeps.set_sfe (.refl _ u) rfl _)).trans (createReports_orderly _ _)
  have hzones (u : State) : Orderly u u.zonePeriod :=
    (orderly_of_aside (Keeps.set_zc (.refl _ u) rfl _)).trans (createReports_orderly _ _)
  have hfans (u : State) : Orderly u u.fanPeriod := by
    unfold State.fanPeriod
    exact ((orderly_of_aside (Keeps.set_fc (.refl _ u) rfl _)).trans (createReports_orderly _ _)).trans
      (orderly_of_aside (Keeps.set_fc (.refl _ _) rfl _))
  have hclimate : Orderly s (SupplyBudget.climateStepped ms s) :=
    (((orderly_of_aside (Keeps.set_period (.refl _ s) rfl _)).trans (hmeasure _)).trans (hzones _)).trans
      (orderly_of_aside ((overheatDwell_keeps _).mono (by decide)))
  have hchecks (c : Bool) (u : State) : Orderly u (SupplyBudget.checks c u) :=
    (psqPeriod_orderly c u).trans (ageHistory_orderly _)
  have hgrants (u : State) : Orderly u u.allocation := by
    unfold State.allocation
    exact (orderly_of_aside ((Keeps.set_la (.refl _ u) rfl _).trans ((takeGrants_keeps _).mono (by decide)))).trans
      (createReports_orderly _ _)
  cases t with
  | beforeAllocation =>
    rw [SupplyBudget.controlPeriod_before, SupplyBudget.atAllocation_before]
    exact ((hclimate.trans (hchecks _ _)).trans (hfans _)).trans (hgrants _)
  | afterAllocation =>
    rw [SupplyBudget.controlPeriod_after, SupplyBudget.atAllocation_after]
    exact ((hclimate.trans (hfans _)).trans (hgrants _)).trans (hchecks _ _)

end Sys2Proof.ExchangeWatch
end

section
/-! PROOFS. The exchange (O57), third part: the orders, their take and their completion keep the exchange in order; an order is
taken by an attached exchange alone, and answered inside its own queue. -/

namespace Sys2Proof.ExchangeWatch

open Sys2Proof Sys2Proof.Machine Sys2Proof.Laws

/-! ## Words written above word 255 -/

/-- A write that starts above word 63 changes no word that the invariant reads. -/
theorem setWords_orderly {w : Nat} (h : 64 ≤ w) (vs : List Word) (s : State) : Orderly s (s.setWords w vs) := fun hs =>
  have hlow (v : Nat) (hv : v < 64) : (s.setWords w vs).mem.word v = s.mem.word v :=
    word_setWords_frame _ _ _ _ (.inl (by omega))
  have hread : (s.setWords w vs).reportRead = s.reportRead := congrArg lowHalf (hlow 39 (by omega))
  have hok : RpuOk (s.setWords w vs) := by
    rw [RpuOk, hread]
    exact rpuOk_of_exchangeOk hs
  { ok := exchangeOk_of_rpuOk hs hok rfl rfl rfl (fun g hg hd => ⟨g, hg, hd, rfl⟩) ((exchangeOk_iff s).1 hs).1.history
    low := hlow
    resetting := rfl
    source := rfl
    loading := id
    detached := fun h => ⟨h, rfl⟩ }

/-! ## SST -/

/-- SST changed in its settings or its key map. -/
theorem orderly_of_settings {s t : State} (k : Keeps { aside with sst := true } s t) (hsource : t.sst.source = s.sst.source)
    (hstore : t.sst.store = s.sst.store) : Orderly s t := fun hs =>
  have hread : t.reportRead = s.reportRead := by simp only [State.reportRead, State.word, k.mem rfl]
  have hok : RpuOk t := by
    have := rpuOk_of_exchangeOk hs
    simpa only [RpuOk, k.rpu rfl, k.exc rfl, hread] using this
  { ok := exchangeOk_of_rpuOk hs hok (by rw [k.rpu rfl]) (by rw [k.exc rfl]) (by rw [k.exc rfl])
      (fun g hg hd => ⟨g, by rw [← hg, k.exc rfl], hd, rfl⟩) (by rw [k.hbw rfl]; exact ((exchangeOk_iff s).1 hs).1.history)
    low := fun w _ => by rw [k.mem rfl]
    resetting := k.resetting
    source := hsource
    loading := by rw [hstore]; exact id
    detached := fun h => ⟨by rw [k.exc rfl]; exact h, hstore⟩ }

theorem settingWritten_orderly (n : Nat) (s : State) : Orderly s (s.settingWritten n) := by
  unfold State.settingWritten
  split
  · exact retryExpiry_orderly s
  · exact eachPosition_orderly _ repeatDelayExpiry_orderly s
  · exact eachPosition_orderly _ repeatIntervalExpiry_orderly s
  · exact eachPosition_orderly _ stuckExpiry_orderly s
  · exact eachPosition_orderly _ quietExpiry_orderly s
  · exact (chordExpiry_orderly s).trans (eachPosition_orderly _ operatorExpiry_orderly _)
  · exact orderly_of_aside ((windowExpiry_keeps s).mono (by decide))
  · exact .refl s

/-- A replacement of entries changes SST's key map alone. -/
theorem replaceEntries_sst (n : Position → Bool) (m : KeyMap) (s : State) :
    ∃ e, (s.replaceEntries n m).sst = { s.sst with keymap := e } := by
  unfold State.replaceEntries
  dsimp only
  split
  · exact ⟨_, (chordRelease_keeps _).sst rfl⟩
  split
  · exact ⟨_, (chordSetChanged_keeps _).sst rfl⟩
  · exact ⟨_, rfl⟩

theorem replaceEntries_orderly (n : Position → Bool) (m : KeyMap) (s : State) : Orderly s (s.replaceEntries n m) := by
  obtain ⟨e, he⟩ := replaceEntries_sst n m s
  exact orderly_of_settings ((replaceEntries_keeps n m s).mono (by decide)) (by rw [he]) (by rw [he])

/-- A store begun for an order, which an attached exchange alone takes. -/
theorem beginStore_orderly (s : State) (h : s.exc.state = .attached) : Orderly s s.beginStore := fun hs =>
  { ok := exchangeOk_of_rpuOk hs (rpuOk_of_exchangeOk hs) rfl rfl rfl (fun g hg hd => ⟨g, hg, hd, rfl⟩)
      ((exchangeOk_iff s).1 hs).1.history
    low := fun _ _ => rfl
    resetting := rfl
    source := rfl
    loading := fun h => by cases h
    detached := fun hd => by rw [h] at hd; cases hd }

/-! ## The orders -/

theorem armed_orderly (src : ArmSource) (w g : Nat) (s : State) : Orderly s (s.armed src w g) := by
  unfold State.armed
  refine ((setHbw_orderly s _ ?_).trans (watchOn_orderly _)).trans (toRunning_orderly _)
  rfl

theorem orderWriteSetting_orderly (r : OrderRecord) (s : State) : Orderly s (orderWriteSetting r s).1 := by
  unfold orderWriteSetting
  split
  · exact .refl s
  · exact (orderly_of_settings ((placeSetting_keeps _ _ s).mono (by decide)) rfl rfl).trans (settingWritten_orderly _ _)

theorem orderRestoreDefaults_orderly (s : State) : Orderly s (orderRestoreDefaults s).1 := by
  have htable := orderly_of_settings (Keeps.set_sst (.refl _ s) rfl { s.sst with table := defaultTable }) rfl rfl
  have hentries := htable.trans (replaceEntries_orderly (fun _ => true) defaultKeyMap _)
  unfold orderRestoreDefaults
  dsimp only
  generalize immediateSettings = l
  exact hentries.trans (fold_orderly _ (fun s n => settingWritten_orderly n s) l _)

/-- A snapshot's copy lies in the host area (R177). -/
theorem snapshotOperands_target {l : Layout} {r : OrderRecord} {first len target : Nat}
    (h : snapshotOperands l r = some (first, len, target)) : 256 ≤ target := by
  unfold snapshotOperands at h
  split at h
  · cases h
  split at h
  · cases h
  dsimp only at h
  split at h
  · cases h
  split at h
  · cases h
  cases h
  omega

theorem orderSnapshot_orderly (r : OrderRecord) (s : State) : Orderly s (orderSnapshot r s).1 := by
  unfold orderSnapshot
  split
  · exact .refl s
  · rename_i first len target h
    have := snapshotOperands_target h
    exact setWords_orderly (by omega) _ s

theorem orderArmWatch_orderly (r : OrderRecord) (s : State) : Orderly s (orderArmWatch r s).1 := by
  unfold orderArmWatch
  split
  · exact .refl s
  split
  · exact .refl s
  split
  · exact armed_orderly _ _ _ s
  · exact armed_orderly _ _ _ s

theorem orderDisarmWatch_orderly (s : State) : Orderly s (orderDisarmWatch s).1 := by
  unfold orderDisarmWatch
  split
  · exact .refl s
  split
  · exact .refl s
  · refine (setHbw_orderly s _ ?_).trans (disarmToRunning_orderly _)
    rfl

theorem orderRequestRestart_orderly (r : OrderRecord) (s : State) : Orderly s (orderRequestRestart r s).1 := by
  unfold orderRequestRestart
  split
  · exact .refl s
  split
  · exact .refl s
  · exact fail_orderly _ s

theorem orderRequestStandby_orderly (r : OrderRecord) (s : State) : Orderly s (orderRequestStandby r s).1 := by
  unfold orderRequestStandby
  split
  · exact .refl s
  · exact enterShutdown_orderly _ s

theorem orderLoadKeymap_orderly (r : OrderRecord) (s : State) : Orderly s (orderLoadKeymap r s).1 := by
  unfold orderLoadKeymap
  split
  · exact .refl s
  split
  · exact replaceEntries_orderly _ _ s
  · exact .refl s

theorem orderUnmaskKey_orderly (r : OrderRecord) (s : State) : Orderly s (orderUnmaskKey r s).1 := by
  unfold orderUnmaskKey
  split
  · exact .refl s
  · refine fold_orderly _ (fun u p => ?_) _ s
    split
    · exact unmaskKey_orderly 2 true p u
    · exact .refl u

theorem perform_orderly (k : OrderKind) (r : OrderRecord) (s : State) (h : s.exc.state = .attached) :
    Orderly s (s.perform k r).1 := by
  cases k with
  | noOp => exact .refl s
  | readSetting =>
    show Orderly s (orderReadSetting r s).1
    unfold orderReadSetting
    split <;> exact .refl s
  | writeSetting => exact orderWriteSetting_orderly r s
  | storeSettings => exact beginStore_orderly s h
  | restoreDefaults => exact orderRestoreDefaults_orderly s
  | snapshot => exact orderSnapshot_orderly r s
  | armWatch => exact orderArmWatch_orderly r s
  | disarmWatch => exact orderDisarmWatch_orderly s
  | requestRestart => exact orderRequestRestart_orderly r s
  | requestStandby => exact orderRequestStandby_orderly r s
  | clearHistory => exact setHistory_orderly [] s fun _ => Nat.zero_le _
  | loadKeymap => exact orderLoadKeymap_orderly r s
  | unmaskKey => exact orderUnmaskKey_orderly r s
  | resetFilter => exact orderly_of_aside (Keeps.set_fc (.refl _ s) rfl _)

theorem examine_orderly (r : OrderRecord) (s : State) (h : s.exc.state = .attached) : Orderly s (s.examine r).1 := by
  unfold State.examine
  split
  · exact .refl s
  split
  · exact .refl s
  split
  · exact perform_orderly _ r s h
  · exact .refl s

/-! ## Take and completion -/

theorem canTake_attached {s : State} (h : s.canTake = true) : s.exc.state = .attached := by
  simp only [State.canTake, Bool.and_eq_true, decide_eq_true_eq] at h
  exact h.1.1

/-- The entry taken lies in the order queue, whatever the mask (R172). -/
theorem orderSlot_in_queue (s : State) : s.exc.layout.orderBase ≤ s.orderSlot
    ∧ s.orderSlot + 8 ≤ s.exc.layout.orderBase + (s.exc.layout.orderMask + 1) * 8 := by
  have hle : s.exc.readIndex.toNat &&& s.exc.layout.orderMask ≤ s.exc.layout.orderMask := Nat.and_le_right
  unfold State.orderSlot
  omega

/-- The state in which a taken order is examined (R172): the order in hand, its code the last one taken. -/
def orderTaken (s : State) : State :=
  { s with exc := { s.exc with inHand := some s.taken, lastOrder := s.taken.record.code } }

theorem orderTaken_orderly (s : State) (h : s.exc.state = .attached) : Orderly s (orderTaken s) :=
  orderly_of_exchange (Keeps.set_exc (.refl _ s) rfl _)
    (fun hs => by
      obtain ⟨hb, hindex⟩ := (exchangeOk_iff s).1 hs
      refine (exchangeOk_iff _).2 ⟨{ hb with hand := fun g hg _ => ?_ }, hindex⟩
      cases hg
      exact ⟨h, orderSlot_in_queue s⟩)
    id

theorem takeOrder_eq (s : State) : s.takeOrder =
    let p := (orderTaken s).examine s.taken.record
    { p.1 with exc := { p.1.exc with inHand := p.1.exc.inHand.map fun h => { h with result := p.2 } } } := rfl

theorem takeOrder_orderly (s : State) (h : s.exc.state = .attached) : Orderly s s.takeOrder := by
  rw [takeOrder_eq]
  refine ((orderTaken_orderly s h).trans (examine_orderly s.taken.record (orderTaken s) h)).trans
    (setExc_orderly _ _ rfl rfl rfl fun g hg hd => ?_)
  obtain ⟨g0, h0, rfl⟩ := Option.map_eq_some_iff.1 hg
  exact ⟨g0, h0, hd, rfl⟩

/-- An answer lies in the order queue of an accepted layout, above the words that the invariant reads. -/
theorem writeOutcome_orderly (r : OrderResult) {s : State} {h : OrderInHand} (hh : s.exc.inHand = some h)
    (hd : h.discard = false) : Orderly s (s.writeOutcome h r) := fun hs => by
  have hb := ((exchangeOk_iff s).1 hs).1
  obtain ⟨ha, hlow, -⟩ := hb.hand h hh hd
  have hbase := (layout_bases (hb.layout ha)).1
  have hwords := ((setWords_orderly (w := h.entry + 6) (by omega) [r.value, r.detail] s).trans
    (setWords_orderly (w := h.entry) (by omega) [h.record.answer r.outcome] _)).trans
    (setExc_orderly _ { s.exc with readIndex := s.exc.readIndex + 1 } rfl rfl rfl fun g hg hd => ⟨g, hg, hd, rfl⟩)
  exact (hwords.trans (raiseAttached_orderly noticeDone _)) hs

theorem startDelay_orderly (s : State) : Orderly s s.startDelay := by
  unfold State.startDelay
  split
  · split
    · exact endShutdown_orderly s
    · exact setPsq_orderly s _
  all_goals exact .refl s

theorem completeOrder_orderly (s : State) : Orderly s s.completeOrder := by
  have hend (u : State) : Orderly u
      { u.carryOutHeld.startDelay with exc := { u.carryOutHeld.startDelay.exc with inHand := none } } :=
    ((carryOutHeld_orderly u).trans (startDelay_orderly _)).trans
      (setExc_orderly _ _ rfl rfl rfl fun g hg => by cases hg)
  unfold State.completeOrder
  split
  · exact .refl s
  split
  · exact .refl s
  · rename_i h hh _ r _
    refine Orderly.trans ?_ (hend (if h.discard then s else s.writeOutcome h r))
    split
    · exact .refl s
    · rename_i hd
      exact writeOutcome_orderly r hh (Bool.not_eq_true _ ▸ hd)

/-! ## The watch's own commands -/

theorem graceStart_orderly (s : State) : Orderly s s.graceStart := by
  unfold State.graceStart
  refine (((setHbw_orderly s _ ?_).trans (toWarned_orderly _)).trans (createReport_orderly _ _)).trans
    (raiseAttached_orderly _ _)
  rfl

theorem heartbeatCommit_orderly (v : Word) (s : State) : Orderly s (s.heartbeatCommit v) := by
  have hacts (u : State) : Orderly u u.heartbeatActs := by
    unfold State.heartbeatActs
    split
    · refine ((setHbw_orderly u _ ?_).trans (watchOn_orderly _)).trans (toRunning_orderly _)
      rfl
    · exact watchOn_orderly u
    · exact (watchOn_orderly u).trans (toRunning_orderly _)
    all_goals exact .refl u
  unfold State.heartbeatCommit
  split
  · exact .refl s
  · refine (setHbw_orderly s _ ?_).trans (hacts _)
    rfl

end Sys2Proof.ExchangeWatch
end

section
/-! PROOFS. The exchange (O57), fourth part: the commits, the two resets' end and the start-up, what publishing leaves, and the
anchor that it shows; then every command keeps both invariants. -/

namespace Sys2Proof.ExchangeWatch

open Sys2Proof Sys2Proof.Machine Sys2Proof.Laws

/-! ## Commits -/

/-- After a commit: the exchange in order, and the part's own words as they were. -/
structure CommitKept (s t : State) : Prop where
  ok : ExchangeOk t
  low : ∀ w < 32, t.mem.word w = s.mem.word w

theorem CommitKept.of_orderly {s t : State} (h : Orderly s t) (hs : ExchangeOk s) : CommitKept s t :=
  ⟨(h hs).ok, fun w hw => (h hs).low w (by omega)⟩

/-- The word stored by a commit, before EXC acts on it (R162). -/
def committed (w : Nat) (v : Word) (s : State) : State := State.setWord w v { s with exc := { s.exc with staging := none } }

theorem commitWord_eq (w : Nat) (v : Word) (s : State) : s.commitWord w v = (committed w v s).commitActs w v := rfl

theorem committed_low {w : Nat} (hw : 32 ≤ w) (v : Word) (s : State) (x : Nat) (hx : x < 32) :
    (committed w v s).mem.word x = s.mem.word x := word_setWord_frame _ _ _ _ (by omega)

theorem committed_but {s : State} (h : ExchangeBut s) (w : Nat) (v : Word) : ExchangeBut (committed w v s) :=
  ⟨h.view, h.layout, h.hand, h.attn, h.holding, h.discards, h.history⟩

/-- A commit of another word than 39 leaves the report queue's use as it was. -/
theorem committed_ok {s : State} (h : ExchangeOk s) {w : Nat} (hw : w ≠ 39) (v : Word) : ExchangeOk (committed w v s) := by
  obtain ⟨hb, hindex⟩ := (exchangeOk_iff s).1 h
  have hread : (committed w v s).reportRead = s.reportRead := congrArg lowHalf (word_setWord_frame _ _ _ _ (Ne.symm hw))
  refine (exchangeOk_iff _).2 ⟨committed_but hb w v, ?_⟩
  rw [hread]
  exact hindex

/-- The exchange of a successful attach, before its drain (R169). -/
def attachAccepted (l : Layout) (s : State) : State :=
  { s with
    exc := { s.exc with
      layout := l, readIndex := s.orderWrite, lastOrder := 0, result := .ok, reason := .none, state := .attached
      inHand := s.exc.inHand.map fun h => { h with discard := true } }
    rpu := { s.rpu with writeIndex := s.reportRead, view := some { base := l.reportBase, mask := l.reportMask } } }

theorem attachDone_eq (l : Layout) (s : State) : s.attachDone l = (attachAccepted l s).drain := rfl

/-- An accepted layout and an empty report queue put the exchange in order, whatever it was before. -/
theorem attachAccepted_ok {l : Layout} {s : State} (h : ExchangeBut s) (hl : layoutCheck 1#32 l = .ok) :
    ExchangeOk (attachAccepted l s) := by
  refine (exchangeOk_iff _).2 ⟨⟨rfl, fun _ => hl, fun g hg hd => ?_, h.attn, h.holding, h.discards, h.history⟩, fun _ => ?_⟩
  · obtain ⟨g0, -, rfl⟩ := Option.map_eq_some_iff.1 hg
    cases hd
  · show (s.reportRead - s.reportRead).toNat ≤ _
    rw [BitVec.sub_self]
    exact Nat.zero_le _

theorem attachTaken_kept {s : State} (h : ExchangeOk s) : CommitKept s s.attachTaken := by
  obtain ⟨hb, -⟩ := (exchangeOk_iff s).1 h
  have hcount : ExchangeBut { s with exc := { s.exc with attachCount := s.exc.attachCount + 1 } } :=
    ⟨hb.view, hb.layout, hb.hand, hb.attn, hb.holding, hb.discards, hb.history⟩
  unfold State.attachTaken
  dsimp only
  split
  · rename_i hok
    have hcheck := hok
    rw [(layoutCheck_ok hok).1] at hcheck
    have hdrain := drain_orderly _ (attachAccepted_ok hcount hcheck)
    rw [attachDone_eq]
    exact ⟨hdrain.ok, fun w hw => hdrain.low w (by omega)⟩
  · rename_i r hr
    unfold State.attachFailed
    have hresult : ExchangeBut
        { s with exc := { s.exc with attachCount := s.exc.attachCount + 1, result := layoutCheck (s.word 33) s.hostLayout } } :=
      ⟨hb.view, hb.layout, hb.hand, hb.attn, hb.holding, hb.discards, hb.history⟩
    have hdetach := detach_exchangeOk .attachFailed hresult
    refine ⟨(raise_orderly _ _ hdetach).ok, fun w hw => ?_⟩
    rw [(raise_keeps _ _).mem rfl, (detach_keeps _ _).mem rfl]

theorem faultDetach_kept {s : State} (h : ExchangeBut s) : CommitKept s s.faultDetach :=
  ⟨(raise_orderly _ _ (detach_exchangeOk .indexFault h)).ok, fun w _ => by rw [(faultDetach_keeps s).mem rfl]⟩

/-- The check at a commit of word 39 restores the bound on the report queue's use, or detaches (R171). -/
theorem reportIndexCommit_kept {s : State} (h : ExchangeBut s) : CommitKept s s.reportIndexCommit := by
  unfold State.reportIndexCommit
  by_cases ha : s.exc.state = .attached
  · rw [if_pos ha]
    split
    · exact faultDetach_kept h
    · rename_i hfault
      simp only [State.indexFault, Bool.or_eq_true, decide_eq_true_eq, not_or, not_lt] at hfault
      exact .of_orderly (drain_orderly s) ((exchangeOk_iff s).2 ⟨h, fun _ => hfault.2⟩)
  · rw [if_neg ha]
    exact ⟨(exchangeOk_iff s).2 ⟨h, fun h => absurd h ha⟩, fun _ _ => rfl⟩

theorem orderIndexCommit_kept {s : State} (h : ExchangeOk s) : CommitKept s s.orderIndexCommit := by
  unfold State.orderIndexCommit
  split
  · split
    · exact faultDetach_kept ((exchangeOk_iff s).1 h).1
    · exact ⟨h, fun _ _ => rfl⟩
  · exact ⟨h, fun _ _ => rfl⟩

theorem attachCommit_kept {s : State} (h : ExchangeOk s) : CommitKept s s.attachCommit := by
  unfold State.attachCommit
  split
  · exact ⟨h, fun _ _ => rfl⟩
  · exact attachTaken_kept h

theorem detachCommit_kept {s : State} (h : ExchangeOk s) : CommitKept s s.detachCommit := by
  unfold State.detachCommit
  split
  · exact .of_orderly (detach_orderly _ s) h
  · exact ⟨h, fun _ _ => rfl⟩

/-- EXC's action on a word other than 39. -/
theorem commitActs_kept {w : Nat} (hw : w ≠ 39) (v : Word) {s : State} (h : ExchangeOk s) : CommitKept s (s.commitActs w v) := by
  unfold State.commitActs
  split
  · split
    · exact attachCommit_kept h
    split
    · exact detachCommit_kept h
    · exact ⟨h, fun _ _ => rfl⟩
  · exact orderIndexCommit_kept h
  · exact absurd rfl hw
  · exact .of_orderly (heartbeatCommit_orderly v s) h
  · exact ⟨h, fun _ _ => rfl⟩

theorem commitWord_kept {w : Nat} (hw : 32 ≤ w) (v : Word) {s : State} (h : ExchangeOk s) : CommitKept s (s.commitWord w v) := by
  have hacts : CommitKept (committed w v s) (s.commitWord w v) := by
    rw [commitWord_eq]
    by_cases h39 : w = 39
    · subst h39
      exact reportIndexCommit_kept (committed_but ((exchangeOk_iff s).1 h).1 39 v)
    · exact commitActs_kept h39 v (committed_ok h h39 v)
  exact ⟨hacts.ok, fun x hx => (hacts.low x hx).trans (committed_low hw v s x hx)⟩

theorem hostWritable_ge {w : WordAddr} (h : hostWritable w = true) : 32 ≤ w.toNat := by
  simp only [hostWritable, Bool.or_eq_true, decide_eq_true_eq] at h
  omega

theorem highWrite_kept (w : WordAddr) (x : Half) {s : State} (h : ExchangeOk s) : CommitKept s (s.highWrite w x) := by
  unfold State.highWrite
  split
  · rename_i hw
    exact commitWord_kept (hostWritable_ge hw) _ h
  · exact ⟨h, fun _ _ => rfl⟩

/-! ## The host's other accesses -/

theorem lowWrite_orderly (w : WordAddr) (x : Half) (s : State) : Orderly s (s.lowWrite w x) := by
  unfold State.lowWrite
  split
  · exact setExc_orderly s _ rfl rfl rfl fun g hg hd => ⟨g, hg, hd, rfl⟩
  · exact .refl s

theorem lowRead_orderly (w : WordAddr) (s : State) : Orderly s (s.lowRead w) :=
  setExc_orderly s _ rfl rfl rfl fun g hg hd => ⟨g, hg, hd, rfl⟩

theorem highRead_orderly (w : WordAddr) (s : State) : Orderly s (s.highRead w) := by
  unfold State.highRead
  split
  · exact setExc_orderly s _ rfl rfl rfl fun g hg hd => ⟨g, hg, hd, rfl⟩
  · split <;> exact setExc_orderly s _ rfl rfl rfl fun g hg hd => ⟨g, hg, hd, rfl⟩

/-! ## What publishing writes -/

theorem anchorWatched_bounds {w : Nat} (h : w ∈ anchorWatched) : 2 ≤ w ∧ w < 14 := by
  simp only [anchorWatched, List.mem_cons, List.not_mem_nil, or_false] at h
  omega

/-- The anchor's words after its rewrite: a watched word whose value the step changed shows the new one, and every other word
stands. -/
theorem writeAnchor_word (old s : State) (w : Nat) : (State.writeAnchor old s).mem.word w =
    if w ∈ anchorWatched ∧ old.anchorValue w ≠ s.anchorValue w then s.anchorValue w else s.mem.word w := by
  have hfold : ∀ (l : List Nat), (∀ x ∈ l, x < 2048) → ∀ t : State,
      (l.foldl (fun t w => if old.anchorValue w = s.anchorValue w then t else t.setWord w (s.anchorValue w)) t).mem.word w =
        if w ∈ l ∧ old.anchorValue w ≠ s.anchorValue w then s.anchorValue w else t.mem.word w := by
    intro l
    induction l with
    | nil => intro _ t; simp
    | cons x l ih =>
      intro hl t
      rw [List.foldl_cons, ih fun y hy => hl y (List.mem_cons_of_mem x hy)]
      have hx := hl x List.mem_cons_self
      by_cases hch : old.anchorValue w = s.anchorValue w
      · by_cases hxw : old.anchorValue x = s.anchorValue x
        · simp [hch, hxw]
        · have hne : w ≠ x := fun h => hxw (h ▸ hch)
          simp [hch, hxw, word_setWord_frame _ _ _ _ hne]
      · by_cases hwx : w = x
        · subst hwx
          simp [hch, word_setWord_self _ _ _ hx]
        · by_cases hxx : old.anchorValue x = s.anchorValue x
          · simp [hxx, hwx]
          · simp [hxx, hwx, word_setWord_frame _ _ _ _ hwx]
  exact hfold anchorWatched (fun x hx => by have := anchorWatched_bounds hx; omega) s

theorem rewriteIf_word_low (c : Bool) (sec : Section) (s : State) {w : Nat} (hw : w < 64) :
    (s.rewriteIf c sec).mem.word w = s.mem.word w := by
  unfold State.rewriteIf State.rewrite State.writeSection
  split
  · exact word_setWords_frame _ _ _ _ (.inl (by cases sec <;> simp only [Section.first] <;> omega))
  · rfl

/-- Below the mirror a publication writes the anchor alone. -/
theorem publish_word_low (r : Rewrites) (old s : State) {w : Nat} (hw : w < 64) : (State.publish r old s).mem.word w =
    if w ∈ anchorWatched ∧ old.anchorValue w ≠ s.anchorValue w then s.anchorValue w else s.mem.word w := by
  unfold State.publish
  rw [rewriteIf_word_low _ _ _ hw, rewriteIf_word_low _ _ _ hw, rewriteIf_word_low _ _ _ hw]
  exact writeAnchor_word old s w

theorem publish_exchangeOk (r : Rewrites) (old : State) {s : State} (h : ExchangeOk s) : ExchangeOk (State.publish r old s) := by
  have k := publish_keeps r old s
  have hread : (State.publish r old s).reportRead = s.reportRead := by
    refine congrArg lowHalf ((publish_word_low r old s (by omega)).trans (if_neg ?_))
    exact fun h39 => absurd h39.1 (by decide)
  have hok : RpuOk (State.publish r old s) := by
    rw [RpuOk, hread, k.rpu rfl, k.exc rfl]
    exact rpuOk_of_exchangeOk h
  exact exchangeOk_of_rpuOk h hok (by rw [k.rpu rfl]) (by rw [k.exc rfl]) (by rw [k.exc rfl])
    (fun g hg hd => ⟨g, by rw [← hg, k.exc rfl], hd, rfl⟩) (by rw [k.hbw rfl]; exact ((exchangeOk_iff s).1 h).1.history)

/-! ## The anchor -/

/-- The anchor words that no step changes (R179). -/
theorem anchorValue_const {w : Nat} (hw : w < 32) (h10 : w ≠ 10) (hmem : w ∉ anchorWatched) (s t : State) :
    s.anchorValue w = t.anchorValue w := by
  simp only [anchorWatched, List.mem_cons, List.not_mem_nil, or_false, not_or] at hmem
  unfold State.anchorValue
  split <;> first | rfl | omega

theorem publish_anchorValue (r : Rewrites) (old s : State) (w : Nat) : (State.publish r old s).anchorValue w = s.anchorValue w := by
  have k := publish_keeps r old s
  simp only [State.anchorValue, k.exc rfl, k.rpu rfl, k.sst rfl, k.uptime, k.resetCause]

/-- A publication shows the anchor of the step's end, where the step's effect wrote none of its words but word 10. -/
theorem publish_anchorOk (r : Rewrites) {old s : State} (hreset : s.resetting ≠ none → s.sst.store = .loading)
    (hold : s.resetting = none → ∀ w < 32, w ≠ 10 → old.mem.word w = old.anchorValue w)
    (hlow : ∀ w < 32, w ≠ 10 → s.mem.word w = old.mem.word w)
    (h10 : s.sst.store ≠ .loading → s.mem.word 10 = s.anchorValue 10) : AnchorOk (State.publish r old s) := by
  have k := publish_keeps r old s
  refine ⟨?_, fun hr w hw hne => ?_, fun hst => ?_⟩
  · rw [k.resetting, k.sst rfl]; exact hreset
  · rw [k.resetting] at hr
    rw [publish_word_low r old s (by omega), publish_anchorValue]
    by_cases hch : old.anchorValue w = s.anchorValue w
    · rw [if_neg fun h => h.2 hch, hlow w hw hne, hold hr w hw hne, hch]
    · have hmem : w ∈ anchorWatched := Decidable.byContradiction fun hmem => hch (anchorValue_const hw hne hmem _ _)
      rw [if_pos ⟨hmem, hch⟩]
  · rw [k.sst rfl] at hst
    rw [publish_word_low r old s (by omega), publish_anchorValue, if_neg fun h => absurd h.1 (by decide)]
    exact h10 hst

theorem anchorValue_ten {s t : State} (h : t.sst.source = s.sst.source) : t.anchorValue 10 = s.anchorValue 10 := by
  simp only [State.anchorValue, h]

/-! ## A step of its own -/

/-- The anchor shown, in a part whose exchange is DETACHED until its load is over (R165, R168). -/
def Shown (s : State) : Prop := AnchorOk s ∧ (s.sst.store = .loading → s.exc.state = .detached)

/-- One effect after another, each shown to the host, keeps the exchange in order and the anchor shown. -/
def Steady (s t : State) : Prop := ExchangeOk s → ExchangeOk t ∧ (Shown s → Shown t)

theorem Steady.refl (s : State) : Steady s s := fun h => ⟨h, id⟩

theorem Steady.trans {s t u : State} (h : Steady s t) (k : Steady t u) : Steady s u := fun hs =>
  have ⟨ht, hst⟩ := h hs
  have ⟨hu, htu⟩ := k ht
  ⟨hu, htu ∘ hst⟩

/-- KPS's answer to the change included. -/
theorem orderly_act {f : State → State} (s : State) (h : Orderly s (f s)) : Orderly s ((f s).keypadFollows s.psq.state) :=
  h.trans (keypadFollows_orderly _ _)

theorem act_steady (r : Rewrites) (f : State → State) (s : State) (h : Orderly s (f s)) : Steady s (State.act r f s) := fun hs => by
  have hu := orderly_act s h hs
  have k := publish_keeps r s ((f s).keypadFollows s.psq.state)
  refine ⟨publish_exchangeOk r s hu.ok, ?_⟩
  rintro ⟨⟨hreset, hwords, hten⟩, hload⟩
  refine ⟨publish_anchorOk r ?_ ?_ (fun w hw _ => hu.low w (by omega)) fun hst => ?_, fun hl => ?_⟩
  · rw [hu.resetting]
    intro hr
    have hl := hreset hr
    rw [(hu.detached (hload hl)).2, hl]
  · rw [hu.resetting]; exact hwords
  · rw [hu.low 10 (by omega), anchorValue_ten hu.source]
    refine hten fun hl => hst ?_
    rw [(hu.detached (hload hl)).2, hl]
  · rw [State.act, k.sst rfl] at hl
    rw [State.act, k.exc rfl]
    exact (hu.detached (hload (hu.loading hl))).1

/-! ## Triggers and failures -/

theorem takeOrder_steady {s : State} (h : s.canTake = true) : Steady s (State.act {} State.takeOrder s) :=
  act_steady {} _ s (takeOrder_orderly s (canTake_attached h))

theorem completeOrder_steady (s : State) : Steady s (State.act {} State.completeOrder s) :=
  act_steady {} _ s (completeOrder_orderly s)

theorem intakeRun_steady (n : Nat) (s : State) : Steady s (s.intakeRun n) := by
  induction n generalizing s with
  | zero => exact .refl s
  | succ n ih =>
    unfold State.intakeRun
    split
    · rename_i hcan
      dsimp only
      split
      · exact ((takeOrder_steady hcan).trans (completeOrder_steady _)).trans (ih _)
      · exact takeOrder_steady hcan
    · exact .refl s

theorem trigger_steady (reach : IntakeReach) (s : State) : Steady s (s.trigger reach) := by
  cases reach with
  | toAnswer => exact intakeRun_steady _ s
  | toTake =>
    unfold State.trigger
    dsimp only
    split
    · rename_i hcan
      exact takeOrder_steady hcan
    · exact .refl s

theorem completeAndTrigger_steady (next : IntakeReach) (s : State) : Steady s (s.completeAndTrigger next) := by
  unfold State.completeAndTrigger
  split
  · exact (completeOrder_steady s).trans (trigger_steady next _)
  · exact .refl s

theorem nextIs_canTake {k : OrderKind} {s : State} (h : s.nextIs k = true) : s.canTake = true := by
  simp only [State.nextIs, Bool.and_eq_true] at h
  exact h.1

theorem orderPhase_steady (k : OrderKind) (p : OrderPhase) (s : State) : Steady s (s.orderPhase k p) := by
  cases p with
  | carryOut =>
    show Steady s (s.takeKind k)
    unfold State.takeKind
    split
    · rename_i h
      exact takeOrder_steady (nextIs_canTake h)
    · exact .refl s
  | complete next =>
    show Steady s (s.completeKind k next)
    unfold State.completeKind
    split
    · exact completeAndTrigger_steady next s
    · exact .refl s
  | whole next =>
    unfold State.orderPhase
    dsimp only
    split
    · rename_i h
      exact (takeOrder_steady (nextIs_canTake h)).trans (completeAndTrigger_steady next _)
    · exact .refl s

/-- A store's end (R197): the anchor shows nothing of it. -/
theorem endStore_steady (r : OrderResult) {s : State} (h : s.sst.store = .storing) : Steady s (s.endStore r) := fun hs => by
  refine ⟨exchangeOk_of_rpuOk hs (show RpuOk s from rpuOk_of_exchangeOk hs) rfl rfl rfl (fun g hg hd => ?_)
    ((exchangeOk_iff s).1 hs).1.history, ?_⟩
  · obtain ⟨g0, h0, rfl⟩ := Option.map_eq_some_iff.1 hg
    exact ⟨g0, h0, hd, rfl⟩
  · rintro ⟨⟨hreset, hwords, hten⟩, -⟩
    refine ⟨⟨fun hr => ?_, hwords, fun _ => hten (by rw [h]; decide)⟩, fun hl => by cases hl⟩
    have := hreset hr
    rw [h] at this
    cases this

theorem storeEnds_steady (r : OrderResult) (next : IntakeReach) (s : State) : Steady s (s.storeEnds r next) := by
  unfold State.storeEnds
  split
  · rename_i h
    exact (endStore_steady r h).trans (completeAndTrigger_steady next _)
  · exact .refl s

theorem failWith_steady (c : Cause) (between : Option IntakeReach) (s : State) : Steady s (s.failWith c between) := by
  cases between with
  | none => exact act_steady {} _ s (fail_orderly c s)
  | some reach =>
    unfold State.failWith
    dsimp only
    split
    · exact ((act_steady {} _ s (decided_orderly c s)).trans (trigger_steady reach _)).trans
        (act_steady {} _ _ (carryOutNow_orderly _ _))
    · exact .refl s

end Sys2Proof.ExchangeWatch
end

section
/-! PROOFS. The exchange (O57), last part: the commands. Each is one effect, or several in a row, on the part with its clock moved;
the resets, their end, the commits and the start-up have lemmas of their own. -/

namespace Sys2Proof.ExchangeWatch

open Sys2Proof Sys2Proof.Machine Sys2Proof.Laws

/-! ## The shapes of a command -/

/-- A command's answer: the exchange in order, and the anchor shown where the part was as a run has it before its load. -/
def Answered (s t : State) : Prop := ExchangeOk s → ExchangeOk t ∧ (Shown s → AnchorOk t)

theorem Answered.of_steady {s t : State} (h : Steady s t) : Answered s t := fun hs =>
  have ⟨ht, hst⟩ := h hs
  ⟨ht, fun hp => (hst hp).1⟩

/-- Time that passes is no part of either invariant. -/
theorem elapse_steady (dt : Nat) (s : State) : Steady s (s.elapse dt) := fun hs => ⟨hs, id⟩

section Shapes

variable {s t : State} {dt : Nat} {f : State → State}

theorem live_answered (h : s.resetting = none → Answered (s.elapse dt) (f (s.elapse dt))) (e : s.live dt f = .next t) :
    Answered s t := by
  cases hr : s.resetting with
  | none => rw [live_next hr] at e; cases e; exact h hr
  | some k => rw [live_reset (by simp [hr])] at e; cases e; exact .of_steady (elapse_steady dt s)

theorem command_answered {r : Rewrites} (h : ∀ u, Orderly u (f u)) (e : s.command dt r f = .next t) : Answered s t :=
  live_answered (fun _ => .of_steady (act_steady r f _ (h _))) e

theorem commandIf_answered {r : Rewrites} {c : State → Bool} (h : ∀ u, Orderly u (f u)) (e : s.commandIf dt r c f = .next t) :
    Answered s t := by
  refine live_answered (fun _ => ?_) e
  split
  · exact .of_steady (act_steady r f _ (h _))
  · exact .of_steady (.refl _)

theorem order_answered {k : OrderKind} {p : OrderPhase} (e : s.order dt k p = .next t) : Answered s t :=
  live_answered (fun _ => .of_steady (orderPhase_steady k p _)) e

end Shapes

/-! ## Commits -/

/-- A commit as a step of its own: an attach moves the exchange's state, and nothing else of SST's or the part's own words. -/
theorem act_commit_answered {f : State → State} {s : State} (h : ExchangeOk s → CommitKept s (f s))
    (k : Keeps { psq := true, hbw := true, exc := true, rpu := true, mem := true } s (f s)) : Answered s (State.act {} f s) :=
  fun hs => by
    have hf := h hs
    have hu := keypadFollows_orderly s.psq.state (f s) hf.ok
    have kk := keypadFollows_keeps s.psq.state (f s)
    have hsst : ((f s).keypadFollows s.psq.state).sst = s.sst := (kk.sst rfl).trans (k.sst rfl)
    have hr : ((f s).keypadFollows s.psq.state).resetting = s.resetting := kk.resetting.trans k.resetting
    have hlow (w : Nat) (hw : w < 32) : ((f s).keypadFollows s.psq.state).mem.word w = s.mem.word w :=
      (hu.low w (by omega)).trans (hf.low w hw)
    refine ⟨publish_exchangeOk {} s hu.ok, ?_⟩
    rintro ⟨⟨hreset, hwords, hten⟩, -⟩
    refine publish_anchorOk {} ?_ ?_ (fun w hw _ => hlow w hw) ?_
    · rw [hr, hsst]; exact hreset
    · rw [hr]; exact hwords
    · rw [hsst, hlow 10 (by omega), anchorValue_ten (congrArg _ hsst)]; exact hten

theorem commit_answered {w : Nat} (hw : 32 ≤ w) (v : Word) {s t : State} {dt : Nat}
    (e : s.command dt {} (State.commitWord w v) = .next t) : Answered s t :=
  live_answered (fun _ => act_commit_answered (commitWord_kept hw v) (commitWord_keeps w v _)) e

theorem highWrite_answered (w : WordAddr) (x : Half) {s t : State} {dt : Nat}
    (e : s.command dt {} (State.highWrite w x) = .next t) : Answered s t :=
  live_answered (fun _ => act_commit_answered (highWrite_kept w x) (highWrite_keeps w x _)) e

/-! ## The start-up -/

/-- The image taken up to SST, without the report that tells of its defaults (R199). -/
def imageTaken (r : ReadBack) (s : State) : State :=
  match loadFailure r with
  | none =>
    { s with sst := { s.sst with
        table := loadSettings (readWords r), keymap := loadKeys (readWords r), source := .stored, store := .idle } }
  | some _ => { s with sst := { s.sst with source := .defaults, store := .idle } }

theorem imageTaken_keeps (r : ReadBack) (s : State) : Keeps { sst := true } s (imageTaken r s) := by
  unfold imageTaken
  split <;> exact Keeps.set_sst (.refl _ s) rfl _

theorem takeImage_orderly (r : ReadBack) (s : State) : Orderly (imageTaken r s) (s.takeImage r) := by
  unfold imageTaken State.takeImage
  cases loadFailure r with
  | none => exact .refl _
  | some d => exact createReport_orderly _ _

/-- SST loaded and word 10 written with its value (R166, R200). -/
def loaded (r : ReadBack) (s : State) : State := (s.takeImage r).setWord 10 ((s.takeImage r).anchorValue 10)

theorem startUp_eq (r : ReadBack) (s : State) :
    s.startUp r = (loaded r s).startHistory.startSequencer.startTimers.frameStart := rfl

/-- The start-up past word 10: HBW's history, PSQ, the timers and the first frame (R200). -/
theorem started_orderly (u : State) : Orderly u u.startHistory.startSequencer.startTimers.frameStart := by
  have hhistory : Orderly u u.startHistory := by
    unfold State.startHistory
    split
    · exact pinResetHistory_orderly u
    · exact .refl u
  have hsequencer (v : State) : Orderly v v.startSequencer := by
    unfold State.startSequencer
    split
    · exact enterHeating_orderly v
    · exact enterStandby_orderly v
  have htimers (v : State) : Orderly v v.startTimers := by
    have hpoll := setExc_orderly v { v.exc with poll := some v.clock } rfl rfl rfl fun g hg hd => ⟨g, hg, hd, rfl⟩
    refine hpoll.trans (orderly_of_aside ?_)
    exact ((Keeps.set_kps (.refl _ _) rfl _).set_ind rfl _).set_period rfl _
  exact ((hhistory.trans (hsequencer _)).trans (htimers _)).trans (orderly_of_aside ((frameStart_keeps _).mono (by decide)))

/-- The invariant where EXC, RPU and HBW are kept, and word 39. -/
theorem exchangeOk_of_keeps {b : Blocks} {s t : State} (k : Keeps b s t) (h : ExchangeOk s) (hexc : b.exc = false)
    (hrpu : b.rpu = false) (hhbw : b.hbw = false) (hword : t.mem.word 39 = s.mem.word 39) : ExchangeOk t := by
  have hread : t.reportRead = s.reportRead := congrArg lowHalf hword
  have hok : RpuOk t := by
    rw [RpuOk, hread, k.rpu hrpu, k.exc hexc]
    exact rpuOk_of_exchangeOk h
  exact exchangeOk_of_rpuOk h hok (by rw [k.rpu hrpu]) (by rw [k.exc hexc]) (by rw [k.exc hexc])
    (fun g hg hd => ⟨g, by rw [← hg, k.exc hexc], hd, rfl⟩) (by rw [k.hbw hhbw]; exact ((exchangeOk_iff s).1 h).1.history)

/-- The completion of the start-up load shows word 10, and the anchor with it. -/
theorem startUp_answered (r : ReadBack) {s : State} (hr : s.resetting = none) :
    Answered s (State.act { frame := true } (State.startUp r) s) := fun hs => by
  have k := imageTaken_keeps r s
  have h1 := takeImage_orderly r s (exchangeOk_of_keeps k hs rfl rfl rfl (by rw [k.mem rfl]))
  have h2 : ExchangeOk (loaded r s) :=
    exchangeOk_of_keeps (setWord_keeps 10 _ _) h1.ok rfl rfl rfl (word_setWord_frame _ _ _ _ (by decide))
  have h3 : Kept (loaded r s) ((s.startUp r).keypadFollows s.psq.state) := by
    rw [startUp_eq]
    exact (started_orderly _).trans (keypadFollows_orderly s.psq.state _) h2
  have hresetting : ((s.startUp r).keypadFollows s.psq.state).resetting = none :=
    ((h3.resetting.trans h1.resetting).trans k.resetting).trans hr
  refine ⟨publish_exchangeOk _ s h3.ok, ?_⟩
  rintro ⟨⟨-, hwords, -⟩, -⟩
  refine publish_anchorOk _ (fun h => absurd hresetting h) (fun _ => hwords hr) (fun w hw hne => ?_) fun _ => ?_
  · have hloaded : (loaded r s).mem.word w = (s.takeImage r).mem.word w := word_setWord_frame _ _ _ _ hne
    rw [h3.low w (by omega), hloaded, h1.low w (by omega), k.mem rfl]
  · have hloaded : (loaded r s).mem.word 10 = (s.takeImage r).anchorValue 10 := word_setWord_self _ _ _ (by omega)
    rw [h3.low 10 (by omega), hloaded]
    exact (anchorValue_ten h3.source).symm

/-! ## The resets -/

theorem partReset_answered (k : ResetKind) (s : State) : Answered s (s.partReset k) := fun _ => by
  refine ⟨(exchangeOk_iff _).2 ⟨⟨rfl, fun h => ?_, fun g hg => ?_, ?_, Nat.zero_le _, Nat.zero_le _, Nat.zero_le _⟩, fun h => ?_⟩,
    fun _ => ⟨fun _ => rfl, fun h => ?_, fun h => absurd rfl h⟩⟩
  · cases h
  · cases hg
  · exact (show false = decide (0#4 &&& 0#4 ≠ 0#4) by decide)
  · cases h
  · cases h

/-- What is outside the part's blocks and window is no part of either invariant. -/
theorem vddUp_steady (x : Timer) (s : State) : Steady s { s with vddUp := x } := fun hs => ⟨hs, id⟩

theorem supplyAt_answered (mv : Nat) (s : State) : Answered s (s.supplyAt mv) := by
  unfold State.supplyAt
  split
  · exact fun hs => ⟨(partReset_answered .supply { s with vddUp := none } hs).1,
      fun hp => (partReset_answered .supply { s with vddUp := none } hs).2 hp⟩
  split
  · exact .of_steady (vddUp_steady none s)
  · exact .of_steady (vddUp_steady _ s)

theorem resetPin_answered (ns : Nat) (s : State) : Answered s (s.resetPin ns) := by
  unfold State.resetPin
  split
  · exact partReset_answered .pin s
  · exact .of_steady (.refl s)

/-- The part at a reset's end, before its window is set (R198). -/
def released (s : State) : State :=
  { s with
    resetting := none, uptime := 0#32, tickAt := s.clock
    sst := { s.sst with since := s.clock }
    psq := { s.psq with deglitch := if s.psq.hostPg then some s.clock else none }
    hbw := { s.hbw with lastValue := s.word 40 } }

theorem endReset_eq (s : State) : s.endReset = (released s).initAnchor.initMirror := rfl

theorem initMirror_word_low (s : State) {w : Nat} (hw : w < 64) : s.initMirror.mem.word w = s.mem.word w := by
  have hsection (sec : Section) (n : Word) (u : State) : (u.writeSection sec n).mem.word w = u.mem.word w :=
    word_setWords_frame _ _ _ _ (.inl (by cases sec <;> simp only [Section.first] <;> omega))
  unfold State.initMirror
  rw [hsection, hsection, hsection]

theorem initMirror_keeps (s : State) : Keeps { mem := true } s s.initMirror :=
  ((writeSection_keeps _ _ _).trans (writeSection_keeps _ _ _)).trans (writeSection_keeps _ _ _)

theorem initAnchor_keeps (s : State) : Keeps { mem := true } s s.initAnchor :=
  (setWords_keeps _ _ _).trans (setWords_keeps _ _ _)

/-- The anchor as a reset's end writes it: every word but word 10 (R166; log 25). -/
theorem initAnchor_word (s : State) (w : Nat) : s.initAnchor.mem.word w =
    if w < 32 ∧ w ≠ 10 then s.anchorValue w else s.mem.word w := by
  have hlist (n k i : Nat) (h : i < k) : ((List.range k).map fun i => s.anchorValue (n + i)).getD i 0#32 = s.anchorValue (n + i) := by
    simp [h]
  have hlow (h : w < 10 ∨ 10 ≤ w) : (s.setWords 0 ((List.range 10).map s.anchorValue)).mem.word w =
      if w < 10 then s.anchorValue w else s.mem.word w := by
    split
    · have := word_setWords_self s.mem 0 ((List.range 10).map s.anchorValue) w (by simpa) (by omega)
      rw [Nat.zero_add] at this
      rw [setWords_mem, this]
      simpa using hlist 0 10 w (by assumption)
    · exact word_setWords_frame _ _ _ _ (.inr (by simp; omega))
  unfold State.initAnchor
  dsimp only
  rw [setWords_mem]
  by_cases hmid : 11 ≤ w ∧ w < 32
  · obtain ⟨h11, h32⟩ := hmid
    obtain ⟨i, rfl⟩ : ∃ i, w = 11 + i := ⟨w - 11, by omega⟩
    rw [if_pos ⟨h32, by omega⟩, word_setWords_self _ _ _ _ (by simp; omega) (by omega)]
    exact hlist 11 21 i (by omega)
  · rw [word_setWords_frame _ _ _ _ (by simp; omega), hlow (by omega)]
    by_cases h : w < 10
    · rw [if_pos h, if_pos (by omega)]
    · rw [if_neg h, if_neg (by omega)]

theorem endReset_answered {s : State} (hr : s.resetting ≠ none) : Answered s s.endReset := fun hs => by
  have k := (initAnchor_keeps (released s)).trans (initMirror_keeps _)
  have hword (w : Nat) (hw : w < 64) : s.endReset.mem.word w =
      if w < 32 ∧ w ≠ 10 then (released s).anchorValue w else s.mem.word w := by
    rw [endReset_eq]
    exact (initMirror_word_low _ hw).trans (initAnchor_word (released s) w)
  have hreleased : ExchangeOk (released s) := hs
  refine ⟨exchangeOk_of_keeps k hreleased rfl rfl rfl ((hword 39 (by omega)).trans (if_neg (by omega))), ?_⟩
  rintro ⟨⟨hreset, -, -⟩, -⟩
  have hvalue (w : Nat) : s.endReset.anchorValue w = (released s).anchorValue w := by
    have k' : Keeps { mem := true } (released s) s.endReset := k
    simp only [State.anchorValue, k'.exc rfl, k'.rpu rfl, k'.sst rfl, k'.uptime, k'.resetCause]
  have hsst : s.endReset.sst.store = .loading := hreset hr
  refine ⟨fun _ => hsst, fun _ w hw hne => ?_, fun h => absurd hsst h⟩
  rw [hword w (by omega), if_pos ⟨hw, hne⟩, hvalue]

theorem endReset_guarded (s : State) : Answered s (s.guarded State.resetCanEnd State.endReset) := by
  unfold State.guarded
  split
  · rename_i h
    refine endReset_answered fun hr => ?_
    rw [State.resetCanEnd, hr] at h
    cases h
  · exact .of_steady (.refl s)

theorem hostPgAt_steady (level : Bool) (s : State) : Steady s (s.hostPgAt level) := by
  unfold State.hostPgAt
  split
  · exact .refl s
  · exact fun hs => ⟨hs, id⟩

/-! ## The commands -/

/-- A command of the part's timers that acts as one effect where it is due, or not at all. -/
theorem when_answered {c : Prop} [Decidable c] {s t : State} (h : Answered s t) : Answered s (if c then t else s) := by
  split
  · exact h
  · exact .of_steady (.refl s)

/-- A tick (R166): uptime is one of the anchor's values, and of neither queue's. -/
theorem tick_orderly (s : State) : Orderly s s.tick := fun hs => ⟨hs, fun _ _ => rfl, rfl, rfl, id, fun h => ⟨h, rfl⟩⟩

theorem watchExpiry_steady (between : Option IntakeReach) (s : State) : Steady s (s.watchExpiry between) := by
  unfold State.watchExpiry
  split
  · exact failWith_steady _ _ s
  · exact act_steady {} _ s (graceStart_orderly s)

theorem eepromAck_answered (now : TriggerTime) (word : Fin 153) {s t : State}
    (e : execEepromAckTimeout now word s = .next t) : Answered s t := by
  refine live_answered (fun hr => ?_) e
  split
  · split
    · exact .of_steady (.refl _)
    · exact startUp_answered _ hr
    · exact .of_steady (storeEnds_steady _ _ _)
  · exact .of_steady (.refl _)

theorem storeTimeout_answered (now : TriggerTime) (word : Fin 153) {s t : State}
    (e : execStoreTimeout now word s = .next t) : Answered s t := by
  refine live_answered (fun _ => ?_) e
  split
  · exact .of_steady (storeEnds_steady _ _ _)
  · exact .of_steady (.refl _)

theorem intakePoll_answered (now : TriggerTime) {s t : State} (e : execIntakePollTimerExpiry now s = .next t) : Answered s t := by
  refine live_answered (fun _ => ?_) e
  split
  case isFalse => exact .of_steady (.refl _)
  refine .of_steady ?_
  have hpoll (u : State) : Steady u { u with exc := { u.exc with poll := some u.clock } } := fun hs => ⟨hs, id⟩
  exact ((hpoll _).trans (trigger_steady _ _)).trans (act_steady {} _ _ (drain_orderly _))

/-- Every command keeps the exchange in order, and the anchor shown. -/
theorem exec_answered (c : Instr) {s t : State} (e : exec c s = .next t) : Answered s t := by
  cases c with
  | supplyReset dt mv => cases e; exact fun hs => supplyAt_answered mv (s.elapse dt) hs
  | pinReset dt ns => cases e; exact fun hs => resetPin_answered ns (s.elapse dt) hs
  | resetEnd dt => cases e; exact fun hs => endReset_guarded (s.elapse dt) hs
  | startUpLoad dt r => exact live_answered (fun hr => when_answered (startUp_answered r hr)) e
  | eepromAckTimeout now word => exact eepromAck_answered now word e
  | controlPeriod dt ms turn =>
    exact commandIf_answered (c := fun s => s.reached s.period Config.controlPeriodUs) (controlPeriod_orderly ms turn) e
  | uptimeTick dt => exact commandIf_answered (c := State.tickDue) tick_orderly e
  | tachEdge dt n => exact command_answered (fun u => orderly_of_aside ((setFan_keeps n _ u).mono (by decide))) e
  | tachOverrun dt n => exact command_answered (fun u => orderly_of_aside ((setFan_keeps n _ u).mono (by decide))) e
  | hostPgChange dt level => cases e; exact .of_steady ((elapse_steady dt s).trans (hostPgAt_steady level _))
  | pgDeglitchExpiry dt =>
    exact commandIf_answered (c := fun s => s.reached s.psq.deglitch Config.deglitchUs) deglitchExpiry_orderly e
  | settleTimerExpiry dt =>
    exact commandIf_answered (c := fun s => decide (s.psq.state = .powering) && s.reached s.psq.settle Config.settleUs)
      (enterBooting_orderly 0) e
  | powerGoodTimerExpiry dt =>
    exact commandIf_answered (c := fun s => decide (s.psq.state = .powering) && s.reached s.psq.pgTimer Config.powerGoodUs)
      pgTimeout_orderly e
  | pulseTimerExpiry dt =>
    exact commandIf_answered (c := fun s => decide (s.psq.state = .restarting) && s.reached s.psq.pulse Config.pulseUs)
      pulseEnd_orderly e
  | offTimerExpiry dt =>
    exact commandIf_answered (c := fun s => decide (s.psq.state = .cycling) && s.ended s.psq.offTimer) enterHeating_orderly e
  | delayTimerExpiry dt => exact commandIf_answered (c := State.delayEnded) endShutdown_orderly e
  | retryTimerExpiry dt => exact commandIf_answered (c := State.retryDue) enterHeating_orderly e
  | bootDeadlineExpiry now => exact live_answered (fun _ => when_answered (.of_steady (failWith_steady _ _ _))) e
  | watchTimerExpiry now => exact live_answered (fun _ => when_answered (.of_steady (watchExpiry_steady _ _))) e
  | graceTimerExpiry now => exact live_answered (fun _ => when_answered (.of_steady (failWith_steady _ _ _))) e
  | windowLowHalfWrite dt w x => exact command_answered (lowWrite_orderly w x) e
  | windowHighHalfWrite dt w x => exact highWrite_answered w x e
  | windowLowHalfRead dt w => exact command_answered (lowRead_orderly w) e
  | windowHighHalfRead dt w => exact command_answered (highRead_orderly w) e
  | attach dt => exact commit_answered (by decide) _ e
  | detach dt => exact commit_answered (by decide) _ e
  | orderWriteIndex dt v => exact commit_answered (by decide) v e
  | reportReadIndex dt v => exact commit_answered (by decide) v e
  | heartbeat dt v => exact commit_answered (by decide) v e
  | nudge now x => exact live_answered (fun _ => .of_steady (trigger_steady _ _)) e
  | notice dt x => exact command_answered (fun u => setPending_orderly _ u) e
  | noticeEnable dt x => exact command_answered (fun u => setEnable_orderly _ u) e
  | registerWriteIgnored dt x => exact command_answered Orderly.refl e
  | intakePollTimerExpiry now => exact intakePoll_answered now e
  | storeSettingsEnd now r =>
    exact live_answered (f := fun s => s.storeEnds (storeResult s.storeCopy r) now.reach)
      (fun _ => .of_steady (storeEnds_steady _ _ _)) e
  | storeTimeout now word => exact storeTimeout_answered now word e
  | slowScan dt raw =>
    exact commandIf_answered (c := State.scanDue .slow) (fun u => orderly_of_aside ((slowScan_keeps raw u).mono (by decide))) e
  | activeScan dt raw => exact commandIf_answered (c := State.scanDue .active) (activeScan_orderly raw) e
  | activityTimerExpiry dt =>
    exact commandIf_answered (c := fun s => s.reached s.kps.activity Config.activityUs) (fun u => setKps_orderly u _) e
  | repeatDelay dt p => exact command_answered (repeatDelayExpiry_orderly p) e
  | repeatInterval dt p => exact command_answered (repeatIntervalExpiry_orderly p) e
  | stuckTime dt p => exact command_answered (stuckExpiry_orderly p) e
  | chatterQuietTime dt p => exact command_answered (quietExpiry_orderly p) e
  | chatterWindowRestart dt =>
    exact commandIf_answered (c := fun s => s.reached s.kps.chatterWindow Config.chatterWindowUs) (fun u => setKps_orderly u _) e
  | chordFire dt => exact command_answered chordExpiry_orderly e
  | serviceWindowClose dt => exact command_answered (fun u => orderly_of_aside ((windowExpiry_keeps u).mono (by decide))) e
  | operatorRestart now p => exact command_answered (operatorPart_orderly now.part p) e
  | frameStart dt =>
    exact commandIf_answered (c := fun s => s.reached s.ind.frame Config.frameUs)
      (fun u => orderly_of_aside ((frameStart_keeps u).mono (by decide))) e
  | groupSlot dt =>
    exact commandIf_answered (c := State.slotDue) (fun u => orderly_of_aside ((slotStart_keeps u).mono (by decide))) e
  | lampTestExpiry dt =>
    exact commandIf_answered (c := fun s => s.reached s.ind.lampTest Config.lampTestUs)
      (fun u => orderly_of_aside (Keeps.set_ind (.refl _ u) rfl _)) e
  | heaterOnTimeEnd dt n =>
    exact commandIf_answered (c := State.heaterDue n) (fun u => orderly_of_aside ((heaterOff_keeps n u).mono (by decide))) e
  | _ => exact order_answered e

/-- Before the load is over a part in order is DETACHED (R66, R78). -/
theorem shown_of_supervisionOk {s : State} (hsup : SupervisionOk s) (ha : AnchorOk s) : Shown s := by
  obtain ⟨-, hreset, hdetached, -, hload, -⟩ := hsup
  refine ⟨ha, fun hl => hdetached ?_⟩
  rw [hreset, (hload hl).1]
  rfl

theorem step_answered {s t : State} (e : step s = .next t) : Answered s t := by
  unfold step at e
  split at e
  · cases e; exact .of_steady (.refl s)
  · exact (exec_answered _ e : Answered { s with pending := _ } t)

/-- Settles O57: every command is one effect or several in a row, each of which keeps the exchange in order, and the publication
after each shows the anchor of what it left. -/
theorem everyStepKeepsTheExchange : Obligations.EveryStepKeepsTheExchange :=
  ⟨fun _ _ hs e => (step_answered e hs).1,
    fun _ _ hsup hs ha e => (step_answered e hs).2 (shown_of_supervisionOk hsup ha)⟩

end Sys2Proof.ExchangeWatch
end

section
/-! PROOFS. The mirror (O25, O26, O40, O41): what a step that asks for no rewrite of its own shows the host. Below the mirror
it writes the anchor words that changed; of the mirror it rewrites the sections whose owners' fields changed (R166, R167). -/

namespace Sys2Proof.MirrorShown

open Sys2Proof Sys2Proof.Machine Sys2Proof.Laws Sys2Proof.ExchangeWatch

/-! ## Flags in words -/

/-- The value of a row of flags, flag p at bit p. -/
def flagsValue {n : Nat} (f : Fin n → Bool) : Nat :=
  (List.finRange n).foldl (fun v p => if f p then v + 2 ^ p.val else v) 0

theorem flagsValue_succ {n : Nat} (f : Fin (n + 1) → Bool) :
    flagsValue f = flagsValue (fun p => f p.castSucc) + if f (Fin.last n) then 2 ^ n else 0 := by
  unfold flagsValue
  rw [List.finRange_succ_last, List.foldl_append, List.foldl_map]
  simp only [List.foldl_cons, List.foldl_nil, Fin.val_last, Fin.val_castSucc]
  split <;> rfl

theorem flagsValue_lt {n : Nat} (f : Fin n → Bool) : flagsValue f < 2 ^ n := by
  induction n with
  | zero => exact Nat.one_pos
  | succ n ih =>
    have := ih fun p => f p.castSucc
    rw [flagsValue_succ, Nat.pow_succ]
    split <;> omega

theorem flagsValue_inj {n : Nat} {f g : Fin n → Bool} (h : flagsValue f = flagsValue g) : f = g := by
  induction n with
  | zero => exact funext fun p => p.elim0
  | succ n ih =>
    have hf := flagsValue_lt fun p : Fin n => f p.castSucc
    have hg := flagsValue_lt fun p : Fin n => g p.castSucc
    rw [flagsValue_succ, flagsValue_succ] at h
    have hlast : f (Fin.last n) = g (Fin.last n) := by
      cases e : f (Fin.last n) with
      | false =>
        cases e' : g (Fin.last n) with
        | false => rfl
        | true => simp only [e, e', if_true, Bool.false_eq_true, if_false] at h; omega
      | true =>
        cases e' : g (Fin.last n) with
        | false => simp only [e, e', if_true, Bool.false_eq_true, if_false] at h; omega
        | true => rfl
    have hrest : (fun p : Fin n => f p.castSucc) = fun p => g p.castSucc := ih (by rw [hlast] at h; omega)
    exact funext fun p => p.lastCases hlast fun q => congrFun hrest q

theorem flagWords_eq_iff {f g : Position → Bool} : flagWords f = flagWords g ↔ ∀ p, f p = g p := by
  refine ⟨fun h => ?_, fun h => congrArg flagWords (funext h)⟩
  have hf := flagsValue_lt f
  have hg := flagsValue_lt g
  have h' : [BitVec.ofNat 32 (flagsValue f), BitVec.ofNat 32 (flagsValue f / 2 ^ 32)] =
      [BitVec.ofNat 32 (flagsValue g), BitVec.ofNat 32 (flagsValue g / 2 ^ 32)] := h
  simp only [List.cons.injEq, and_true] at h'
  obtain ⟨hlow, hhigh⟩ := h'
  have hlow := congrArg BitVec.toNat hlow
  have hhigh := congrArg BitVec.toNat hhigh
  simp only [BitVec.toNat_ofNat] at hlow hhigh
  exact congrFun (flagsValue_inj (by omega))

/-- KPS's flag words are the same exactly where each key's flags are. -/
theorem keyWords_eq_iff {s t : State} : s.keyWords = t.keyWords ↔
    ∀ p, (t.key p).deb = (s.key p).deb ∧ (t.key p).mask = (s.key p).mask ∧ (t.key p).mustUp = (s.key p).mustUp := by
  have hlen (f : Position → Bool) : (flagWords f).length = 2 := rfl
  have hmask : ∀ m n : Mask, decide (m = .stuck) = decide (n = .stuck) ∧ decide (m = .chatter) = decide (n = .chatter) ↔ n = m := by
    intro m n; cases m <;> cases n <;> decide
  have hsplit : s.keyWords = t.keyWords ↔
      ((flagWords (fun p => (s.key p).deb) = flagWords (fun p => (t.key p).deb)
        ∧ flagWords (fun p => decide ((s.key p).mask = .stuck)) = flagWords (fun p => decide ((t.key p).mask = .stuck)))
        ∧ flagWords (fun p => decide ((s.key p).mask = .chatter)) = flagWords (fun p => decide ((t.key p).mask = .chatter)))
        ∧ flagWords (fun p => (s.key p).mustUp) = flagWords (fun p => (t.key p).mustUp) := by
    unfold State.keyWords
    constructor
    · intro h
      obtain ⟨h, h4⟩ := List.append_inj h (by simp [hlen])
      obtain ⟨h, h3⟩ := List.append_inj h (by simp [hlen])
      obtain ⟨h1, h2⟩ := List.append_inj h (by simp [hlen])
      exact ⟨⟨⟨h1, h2⟩, h3⟩, h4⟩
    · rintro ⟨⟨⟨h1, h2⟩, h3⟩, h4⟩
      rw [h1, h2, h3, h4]
  simp only [hsplit, flagWords_eq_iff]
  constructor
  · rintro ⟨⟨⟨h1, h2⟩, h3⟩, h4⟩ p
    exact ⟨(h1 p).symm, (hmask _ _).1 ⟨h2 p, h3 p⟩, (h4 p).symm⟩
  · intro h
    exact ⟨⟨⟨fun p => (h p).1.symm, fun p => ((hmask _ _).2 (h p).2.1).1⟩, fun p => ((hmask _ _).2 (h p).2.1).2⟩,
      fun p => (h p).2.2.symm⟩

/-! ## A section's body and its rewrite -/

theorem eq_of_keeps_mem {s t : State} (k : Keeps { mem := true } s t) : t = { s with mem := t.mem } := by
  cases s; cases t; cases k
  simp_all

/-- A section shows its owners' fields, and nothing of the window. -/
theorem sectionBody_of_keeps {s t : State} (sec : Section) (k : Keeps { mem := true } s t) :
    t.sectionBody sec = s.sectionBody sec := by
  rw [eq_of_keeps_mem k]
  cases sec <;> rfl

/-- A section of PSQ's, HBW's, KPS's and IND's fields. -/
def small : Section → Prop
  | .climate => False
  | .supervision => True
  | .panel => True

theorem sectionBody_length {sec : Section} (h : small sec) (s : State) : (s.sectionBody sec).length = 30 := by
  cases sec with
  | climate => exact h.elim
  | supervision => rfl
  | panel => rfl

section Rewrite

variable {sec : Section} {s t : State}

theorem section_words_length (h : small sec) (n : Word) : ([n] ++ s.sectionBody sec ++ [n]).length = 32 := by
  simp [sectionBody_length h]

theorem small_length (h : small sec) : sec.length = 32 := by
  cases sec with
  | climate => exact h.elim
  | supervision => rfl
  | panel => rfl

theorem rewrite_byte (h : small sec) {a : Nat} (ha : a < 4 * sec.first ∨ 4 * (sec.first + 32) ≤ a) :
    (s.rewrite sec).mem.byte a = s.mem.byte a :=
  byte_setWords_frame _ _ _ _ (by rwa [section_words_length h])

theorem rewrite_word_self (h : small sec) {i : Nat} (hi : i < 32) : (s.rewrite sec).mem.word (sec.first + i) =
    ([s.mem.word sec.first + 1] ++ s.sectionBody sec ++ [s.mem.word sec.first + 1]).getD i 0#32 := by
  refine word_setWords_self _ _ _ _ (by rwa [section_words_length h]) ?_
  cases sec <;> simp only [Section.first] <;> omega

/-- A rewrite as the window shows it, whatever the rest of the step does outside the section. -/
theorem rewritten_of_words (h : small sec) {u : State} (hfirst : u.mem.word sec.first = s.mem.word sec.first)
    (k : Keeps { mem := true } u t)
    (hwords : ∀ w, sec.first ≤ w → w < sec.first + 32 → t.mem.word w = (u.rewrite sec).mem.word w) :
    SectionRewritten sec s t := by
  have hlen := small_length h
  have hself (i : Nat) (hi : i < 32) := (hwords (sec.first + i) (by omega) (by omega)).trans (rewrite_word_self h hi)
  rw [hfirst] at hself
  refine ⟨hself 0 (by omega), ?_, ?_⟩
  · rw [hlen]
    refine (hself 31 (by omega)).trans ?_
    simp [List.getD, sectionBody_length h]
  · rw [hlen, sectionBody_of_keeps sec k]
    refine List.ext_getElem (by simp [Memory.wordsFrom, sectionBody_length h]) fun i h1 h2 => ?_
    have hi : i < 30 := by rwa [sectionBody_length h] at h2
    simp only [Memory.wordsFrom, List.getElem_map, List.getElem_range]
    rw [Nat.add_assoc, Nat.add_comm 1 i, hself (i + 1) (by omega)]
    simp [List.getD, List.getElem?_append_left h2, List.getElem?_eq_getElem h2]

end Rewrite

/-! ## What a publication writes -/

section Publish

variable {old s : State}

theorem publish_eq : State.publish {} old s =
    ((State.writeAnchor old s).rewriteIf (State.supervisionChanged old s) .supervision).rewriteIf
      (State.panelChanged old s) .panel := by
  simp [State.publish, State.rewriteIf]

theorem rewriteIf_byte {sec : Section} (h : small sec) {c : Bool} {a : Nat}
    (ha : c = true → a < 4 * sec.first ∨ 4 * (sec.first + 32) ≤ a) : (s.rewriteIf c sec).mem.byte a = s.mem.byte a := by
  cases c with
  | false => rfl
  | true => exact rewrite_byte h (ha rfl)

theorem writeAnchor_byte {a : Nat}
    (h : ∀ w ∈ anchorWatched, old.anchorValue w ≠ s.anchorValue w → a < 4 * w ∨ 4 * w + 4 ≤ a) :
    (State.writeAnchor old s).mem.byte a = s.mem.byte a := by
  have hfold : ∀ (l : List Nat), (∀ w ∈ l, old.anchorValue w ≠ s.anchorValue w → a < 4 * w ∨ 4 * w + 4 ≤ a) → ∀ t : State,
      (l.foldl (fun t w => if old.anchorValue w = s.anchorValue w then t else t.setWord w (s.anchorValue w)) t).mem.byte a =
        t.mem.byte a := by
    intro l
    induction l with
    | nil => intro _ t; rfl
    | cons w l ih =>
      intro hl t
      rw [List.foldl_cons, ih fun x hx => hl x (List.mem_cons_of_mem w hx)]
      split
      · rfl
      · rename_i hne
        exact byte_setWord_frame _ _ _ _ (hl w List.mem_cons_self hne)
  exact hfold anchorWatched h s

/-- A byte outside the anchor words that changed, and outside the sections whose owners changed, stands. -/
theorem publish_byte {a : Nat} (ha : ∀ w ∈ anchorWatched, old.anchorValue w ≠ s.anchorValue w → a < 4 * w ∨ 4 * w + 4 ≤ a)
    (hsup : State.supervisionChanged old s = true → a < 512 ∨ 640 ≤ a)
    (hpan : State.panelChanged old s = true → a < 640 ∨ 768 ≤ a) : (State.publish {} old s).mem.byte a = s.mem.byte a := by
  rw [publish_eq, rewriteIf_byte (sec := .panel) trivial hpan, rewriteIf_byte (sec := .supervision) trivial hsup,
    writeAnchor_byte ha]

theorem writeAnchor_word_high {w : Nat} (hw : 14 ≤ w) : (State.writeAnchor old s).mem.word w = s.mem.word w := by
  rw [writeAnchor_word, if_neg fun h => by have := anchorWatched_bounds h.1; omega]

theorem rewriteIf_word {sec : Section} (h : small sec) (c : Bool) {w : Nat} (hw : w < sec.first ∨ sec.first + 32 ≤ w) :
    (s.rewriteIf c sec).mem.word w = s.mem.word w :=
  word_eq_of_bytes fun a h1 h2 => rewriteIf_byte h fun _ => by omega

/-- From the history region on a publication writes nothing. -/
theorem publish_word_high {w : Nat} (hw : 192 ≤ w) : (State.publish {} old s).mem.word w = s.mem.word w :=
  word_eq_of_bytes fun a h1 _ => publish_byte (fun x hx _ => by have := anchorWatched_bounds hx; omega)
    (fun _ => by omega) fun _ => by omega

/-- What the panel section's rewrite goes by (R149), flag by flag. -/
theorem panelChanged_iff : State.panelChanged old s = false ↔
    s.kps.mode = old.kps.mode ∧ s.kps.chord = old.kps.chord ∧ s.kps.window = old.kps.window
      ∧ ∀ p, (s.key p).deb = (old.key p).deb ∧ (s.key p).mask = (old.key p).mask ∧ (s.key p).mustUp = (old.key p).mustUp := by
  unfold State.panelChanged
  simp only [Bool.or_eq_false_iff, decide_eq_false_iff_not, not_not, keyWords_eq_iff, eq_comm (a := old.kps.mode),
    eq_comm (a := old.kps.chord), eq_comm (a := old.kps.window)]
  tauto

theorem supervisionChanged_same (hpsq : s.psq = old.psq) (hhbw : s.hbw = old.hbw) (hw : s.windowInForce = old.windowInForce)
    (hg : s.graceInForce = old.graceInForce) : State.supervisionChanged old s = false := by
  simp [State.supervisionChanged, hpsq, hhbw, hw, hg]

/-- What the supervision section's rewrite goes by (R92, R118). -/
theorem supervisionChanged_iff : State.supervisionChanged old s = true ↔
    s.psq.state ≠ old.psq.state ∨ s.psq.reason ≠ old.psq.reason ∨ s.psq.target ≠ old.psq.target ∨ s.psq.stamp ≠ old.psq.stamp
      ∨ s.psq.mainEn ≠ old.psq.mainEn ∨ s.psq.hostReset ≠ old.psq.hostReset ∨ s.psq.pgSeen ≠ old.psq.pgSeen
      ∨ s.hbw ≠ old.hbw ∨ s.windowInForce ≠ old.windowInForce ∨ s.graceInForce ≠ old.graceInForce := by
  simp only [State.supervisionChanged, Bool.or_eq_true, decide_eq_true_eq, ne_comm (a := s.psq.state),
    ne_comm (a := s.psq.reason), ne_comm (a := s.psq.target), ne_comm (a := s.psq.stamp), ne_comm (a := s.psq.mainEn),
    ne_comm (a := s.psq.hostReset), ne_comm (a := s.psq.pgSeen), ne_comm (a := s.hbw), ne_comm (a := s.windowInForce),
    ne_comm (a := s.graceInForce)]
  tauto

/-- The supervision section as a publication leaves it, the effect having written none of it. -/
theorem publish_supervision_word {w : Nat} (hw : w < 160) : (State.publish {} old s).mem.word w =
    ((State.writeAnchor old s).rewriteIf (State.supervisionChanged old s) .supervision).mem.word w := by
  rw [publish_eq]
  exact rewriteIf_word (sec := .panel) trivial _ (.inl hw)

theorem publish_supervision (hmem : ∀ w, 64 ≤ w → w < 192 → s.mem.word w = old.mem.word w) :
    SupervisionFollows old (State.publish {} old s) := by
  have k := publish_keeps {} old s
  have hwin : (State.publish {} old s).windowInForce = s.windowInForce := by rw [eq_of_keeps_mem k]; rfl
  have hgrace : (State.publish {} old s).graceInForce = s.graceInForce := by rw [eq_of_keeps_mem k]; rfl
  have hanchor (w : Nat) (h1 : 128 ≤ w) (h2 : w < 160) : (State.writeAnchor old s).mem.word w = old.mem.word w :=
    (writeAnchor_word_high (by omega)).trans (hmem w (by omega) (by omega))
  simp only [SupervisionFollows, k.psq rfl, k.hbw rfl, hwin, hgrace, ← supervisionChanged_iff]
  refine ⟨fun h => ?_, fun hpsq hhbw hw hg w (h1 : 128 ≤ w) (h2 : w < 160) => ?_⟩
  · refine rewritten_of_words (sec := .supervision) trivial (u := State.writeAnchor old s) (hanchor 128 (by omega) (by omega)) ?_
      fun w (h1 : 128 ≤ w) (h2 : w < 160) => ?_
    · rw [publish_eq]
      exact (rewriteIf_keeps _ _ _).trans (rewriteIf_keeps _ _ _)
    · rw [publish_supervision_word h2, h]
      rfl
  · rw [publish_supervision_word h2, supervisionChanged_same hpsq hhbw hw hg]
    exact hanchor w h1 h2

theorem publish_panel (hmem : ∀ w, 64 ≤ w → w < 192 → s.mem.word w = old.mem.word w) :
    PanelFollows old (State.publish {} old s) := by
  have k := publish_keeps {} old s
  have hbefore (w : Nat) (h1 : 160 ≤ w) (h2 : w < 192) :
      ((State.writeAnchor old s).rewriteIf (State.supervisionChanged old s) .supervision).mem.word w = old.mem.word w :=
    (rewriteIf_word (sec := .supervision) trivial _ (.inr h1)).trans
      ((writeAnchor_word_high (by omega)).trans (hmem w (by omega) h2))
  simp only [PanelFollows, State.key, k.kps rfl]
  refine ⟨fun h w (h1 : 160 ≤ w) (h2 : w < 192) => ?_, fun h => ?_⟩
  · rw [publish_eq, panelChanged_iff.2 h]
    exact hbefore w h1 h2
  · have hchanged : State.panelChanged old s = true := by
      by_contra hc
      exact h (panelChanged_iff.1 (Bool.eq_false_iff.2 hc))
    refine rewritten_of_words (sec := .panel) trivial (hbefore 160 (by omega) (by omega)) ?_ fun w h1 h2 => ?_
    · rw [publish_eq]
      exact rewriteIf_keeps _ _ _
    · rw [publish_eq, hchanged]
      rfl

/-- The mirror after an effect that itself writes none of its words (R92, R118, R149). -/
theorem publish_mirror (hmem : ∀ w, 64 ≤ w → w < 192 → s.mem.word w = old.mem.word w) :
    SupervisionFollows old (State.publish {} old s) ∧ PanelFollows old (State.publish {} old s)
      ∧ SectionKept .climate old (State.publish {} old s) := by
  refine ⟨publish_supervision hmem, publish_panel hmem, fun w (h1 : 64 ≤ w) (h2 : w < 128) => ?_⟩
  rw [publish_supervision_word (by omega)]
  exact (rewriteIf_word (sec := .supervision) trivial _ (.inl h2)).trans
    ((writeAnchor_word_high (by omega)).trans (hmem w h1 (by omega)))

end Publish

end Sys2Proof.MirrorShown
end

section
/-! PROOFS. The shapes of a step (O25, O26, O40, O41): the blocks a frame names, the bytes a publication writes, KPS's silence,
and a report given (R182, R184, R185). -/

namespace Sys2Proof.MirrorShown

open Sys2Proof Sys2Proof.Machine Sys2Proof.Laws Sys2Proof.ExchangeWatch

/-! ## Frames -/

/-- Whether a change of some blocks at a command may show in a frame's block; the clock moves with every command. -/
def mayChange (bs : Blocks) : Block → Bool
  | .clock => true
  | .ticks | .reset | .queue => false
  | .period => bs.part
  | .sfe => bs.sfe
  | .zc => bs.zc
  | .la => bs.la
  | .fc => bs.fc
  | .psq => bs.psq
  | .hbw => bs.hbw
  | .kps => bs.kps
  | .ind => bs.ind
  | .exc => bs.exc
  | .rpu => bs.rpu
  | .sst => bs.sst
  | .window => bs.mem

theorem same_of_keeps {bs : Blocks} {dt : Nat} {s t : State} (k : Keeps bs (s.elapse dt) t) (b : Block)
    (h : mayChange bs b = false) : b.same s t := by
  cases b with
  | clock => cases h
  | ticks => exact ⟨k.tickAt, k.uptime⟩
  | reset => exact ⟨k.resetting, k.vddUp, k.resetCause⟩
  | period => exact k.period h
  | sfe => exact k.sfe h
  | zc => exact k.zc h
  | la => exact k.la h
  | fc => exact k.fc h
  | psq => exact k.psq h
  | hbw => exact k.hbw h
  | kps => exact k.kps h
  | ind => exact k.ind h
  | exc => exact k.exc h
  | rpu => exact k.rpu h
  | sst => exact k.sst h
  | window => exact fun a => by rw [k.mem h]; rfl
  | queue => exact k.pending

theorem unchanged_of_keeps {bs : Blocks} {l : List Block} {dt : Nat} {s t : State} (k : Keeps bs (s.elapse dt) t)
    (h : ∀ b, b ∉ l → mayChange bs b = false) : Unchanged l s t := fun b hb => same_of_keeps k b (h b hb)

/-! ## The bytes of a step -/

/-- A publication writes the anchor words that changed and the sections whose owners changed: a frame that names them keeps. -/
theorem publish_bytesKept {spans : List (Nat × Nat)} {old s : State} (h : BytesKept spans old s)
    (hanchor : ∀ w ∈ anchorWatched, old.anchorValue w ≠ s.anchorValue w → ∃ p ∈ spans, p.1 ≤ w ∧ w < p.2)
    (hsup : State.supervisionChanged old s = true → supervisionSpan ∈ spans)
    (hpan : State.panelChanged old s = true → panelSpan ∈ spans) : BytesKept spans old (State.publish {} old s) := by
  intro a ha
  rw [publish_byte (fun w hw hne => ?_) (fun hc => ha _ (hsup hc)) (fun hc => ha _ (hpan hc))]
  · exact h a ha
  · obtain ⟨p, hp, h1, h2⟩ := hanchor w hw hne
    rcases ha p hp with h | h <;> omega

/-- The anchor shows nothing of PSQ's, HBW's, KPS's or the window's (R179). -/
theorem anchorValue_of_keeps {s u : State} (k : Keeps { psq := true, hbw := true, kps := true, mem := true } s u) (w : Nat) :
    u.anchorValue w = s.anchorValue w := by
  simp only [State.anchorValue, k.exc rfl, k.rpu rfl, k.sst rfl, k.uptime, k.resetCause]

/-- A step that changes nothing of what the host is shown. -/
theorem publish_silent {old s : State} (hanchor : ∀ w, s.anchorValue w = old.anchorValue w)
    (hsup : State.supervisionChanged old s = false) (hpan : State.panelChanged old s = false) : State.publish {} old s = s := by
  have hw : State.writeAnchor old s = s := by
    unfold State.writeAnchor
    simp only [hanchor, if_true]
    exact List.foldl_fixed _
  rw [publish_eq, hw, hsup, hpan]
  rfl

theorem panelChanged_of_kps {old s : State} (h : s.kps = old.kps) : State.panelChanged old s = false :=
  panelChanged_iff.2 (by simp [State.key, h])

theorem keypadFollows_unchanged {old : SeqState} {s : State} (h : s.psq.state = old) : s.keypadFollows old = s :=
  h ▸ keypadFollows_same s

/-- KPS answers no change of PSQ's state between two in which the computer runs under the watch (R139). -/
theorem keypadFollows_running {old : SeqState} {s : State} (hp : s.psq.state.parked = false)
    (hup : s.psq.state.up = true → old.up = true) : s.keypadFollows old = s := by
  unfold State.keypadFollows
  simp only [hp, Bool.false_and, Bool.false_eq_true, if_false]
  cases hs : s.psq.state.up with
  | false => rfl
  | true => simp [hup hs]

/-- A step whose effect writes none of the mirror's words, KPS having answered. -/
theorem publish_mirrorFollows {dt : Nat} {s u : State}
    (hmem : s.queueAside → ∀ w, 64 ≤ w → w < 192 → u.mem.word w = s.mem.word w) :
    MirrorFollows s (State.publish {} (s.elapse dt) u) := fun hq => publish_mirror (old := s.elapse dt) (hmem hq)

/-! ## A report given -/

section Report

variable {s : State} (b : ReportBody)

theorem drainHeld_no_room (h : s.queueRoom = false) : State.drainHeld s.rpu.holding s = s := by
  cases hl : s.rpu.holding with
  | nil => rw [State.drainHeld, ← hl]
  | cons r l => rw [State.drainHeld, if_neg (by simp [h]), ← hl]

/-- A drain without room writes nothing (R186). -/
theorem drain_no_room (h : s.queueRoom = false) : s.drain = s := by
  have hheld : heldDrained s = s := by
    unfold heldDrained
    split
    · exact drainHeld_no_room h
    · rfl
  rw [drain_eq, hheld, h, Bool.and_false, if_neg (by decide)]

/-- A drain of an empty list with nothing discarded writes nothing (R186). -/
theorem drain_empty (hl : s.rpu.holding = []) (hd : s.rpu.discards = 0) : s.drain = s := by
  have hheld : heldDrained s = s := by
    unfold heldDrained
    split
    · rw [hl, State.drainHeld, ← hl]
    · rfl
  rw [drain_eq, hheld, hd]
  simp

theorem createReport_no_room (h : s.queueRoom = false) :
    s.createReport b = (counted s).holdReport (s.numbered b) := by
  rw [createReport_eq, drain_no_room h, h, Bool.and_false, if_neg (by decide)]

theorem createReport_empty (hl : s.rpu.holding = []) (hd : s.rpu.discards = 0) (h : s.queueRoom = true) :
    s.createReport b = (counted s).writeReport (s.numbered b) := by
  rw [createReport_eq, drain_empty hl hd, if_pos (by simp [hl, hd, h])]

theorem queueRoom_false_iff : s.queueRoom = false ↔
    ∀ q, s.rpu.view = some q → q.mask + 1 ≤ (s.rpu.writeIndex - s.reportRead).toNat := by
  unfold State.queueRoom
  cases hv : s.rpu.view with
  | none => simp
  | some q => simp

/-- A record written stands in the slot of the write index (R184). -/
theorem writeReport_words {q : QueueView} (r : Report) (hv : s.rpu.view = some q) (hend : q.base + (q.mask + 1) * 4 ≤ 2048) :
    (s.writeReport r).mem.wordsFrom (q.base + (s.rpu.writeIndex.toNat &&& q.mask) * 4) 4 = r.words := by
  have hslot : s.reportSlot = q.base + (s.rpu.writeIndex.toNat &&& q.mask) * 4 := reportSlot_some hv
  have hmask : s.rpu.writeIndex.toNat &&& q.mask ≤ q.mask := Nat.and_le_right
  rw [← hslot, writeReport_mem]
  refine List.ext_getElem (by simp [Memory.wordsFrom, report_words_length]) fun i h1 h2 => ?_
  rw [report_words_length] at h2
  simp only [Memory.wordsFrom, List.getElem_map, List.getElem_range]
  rw [word_setWords_self _ _ _ _ (by rwa [report_words_length]) (by omega)]
  simp [List.getD, List.getElem?_eq_getElem (show i < r.words.length by rwa [report_words_length])]

/-- A cause raised at the end leaves RPU's queue and list. -/
theorem raiseAttached_rpu (bit : BitVec 4) : (s.raiseAttached bit).rpu =
    if s.exc.state = .attached then
      { s.rpu with pending := s.rpu.pending ||| bit, attn := attnOf (s.rpu.pending ||| bit) s.exc.enable }
    else s.rpu := by
  unfold State.raiseAttached
  split <;> rfl

theorem raiseAttached_mem (bit : BitVec 4) : (s.raiseAttached bit).mem = s.mem := by
  unfold State.raiseAttached
  split <;> rfl

theorem createReport_exc : (s.createReport b).exc = s.exc := (createReport_reported b s).keeps.exc rfl

/-! In an exchange that is not attached no report raises a cause (R188). -/

/-- NOTICE and ATTN are as they were. -/
def NoticesKept (s t : State) : Prop := t.rpu.pending = s.rpu.pending ∧ t.rpu.attn = s.rpu.attn

theorem NoticesKept.trans {s t u : State} (h : NoticesKept s t) (k : NoticesKept t u) : NoticesKept s u :=
  ⟨k.1.trans h.1, k.2.trans h.2⟩

theorem writeReport_notices (h : s.exc.state ≠ .attached) (r : Report) : NoticesKept s (s.writeReport r) := by
  rw [NoticesKept, writeReport_rpu, if_neg h]
  exact ⟨rfl, rfl⟩

theorem drainHeld_notices (h : s.exc.state ≠ .attached) (l : List Report) : NoticesKept s (State.drainHeld l s) := by
  induction l generalizing s with
  | nil => exact ⟨rfl, rfl⟩
  | cons r l ih =>
    unfold State.drainHeld
    split
    · exact (writeReport_notices h r).trans (ih (by rwa [(writeReport_keeps r s).exc rfl]))
    · exact ⟨rfl, rfl⟩

theorem drain_notices (h : s.exc.state ≠ .attached) : NoticesKept s s.drain := by
  have hheld : NoticesKept s (heldDrained s) := by
    unfold heldDrained
    split
    · exact drainHeld_notices h _
    · exact ⟨rfl, rfl⟩
  rw [drain_eq]
  split
  · refine hheld.trans (writeReport_notices (s := { heldDrained s with rpu := _ }) ?_ _)
    rwa [← (heldDrained_reported s).keeps.exc rfl] at h
  · exact hheld

theorem createReport_notices (h : s.exc.state ≠ .attached) : NoticesKept s (s.createReport b) := by
  rw [createReport_eq]
  split
  · refine (drain_notices h).trans (writeReport_notices (s := counted s.drain) ?_ _)
    rwa [← (drain_reported s).keeps.exc rfl] at h
  · exact drain_notices h

theorem createReports_notices (h : s.exc.state ≠ .attached) (bs : List ReportBody) : NoticesKept s (s.createReports bs) := by
  unfold State.createReports
  induction bs generalizing s with
  | nil => exact ⟨rfl, rfl⟩
  | cons b bs ih => exact (createReport_notices b h).trans (ih (by rwa [createReport_exc]))

/-- Whatever else the step has changed, a report created is given (R182, R184, R185). -/
theorem reportGiven_of {u t : State} {bit : BitVec 4} (hview : s.rpu.view = none → s.exc.state = .detached)
    (hrpu : u.rpu = s.rpu) (hup : u.uptime = s.uptime) (hexc : u.exc.state = s.exc.state) (hread : u.reportRead = s.reportRead)
    (ht : t.rpu = ((u.createReport b).raiseAttached bit).rpu)
    (hmem : ∀ w, 256 ≤ w → t.mem.word w = (u.createReport b).mem.word w) : ReportGiven b s t := by
  have hnum : u.numbered b = s.reportOf b := by simp only [State.numbered, State.reportOf, hrpu, hup]
  have hroom : u.queueRoom = s.queueRoom := by simp only [State.queueRoom, hrpu, hread]
  have hatt : (u.createReport b).exc.state = s.exc.state := by rw [createReport_exc, hexc]
  have hheld (h : s.queueRoom = false) : (u.createReport b).rpu = { s.rpu with
      holding := (takeIn s.rpu.holding (s.reportOf b)).1
      discards := min 65535 (s.rpu.discards + (takeIn s.rpu.holding (s.reportOf b)).2), created := s.rpu.created + 1 } := by
    rw [createReport_no_room b (hroom.trans h), hnum]
    simp only [State.holdReport, counted, hrpu]
  rw [raiseAttached_rpu, hatt] at ht
  refine ⟨fun hv hlen hdis => ?_, fun h => ?_, fun q hv hl hd hused hbase hend => ?_⟩
  · have htake : takeIn s.rpu.holding (s.reportOf b) = (s.rpu.holding ++ [s.reportOf b], 0) := by
      unfold takeIn
      exact if_pos hlen
    rw [ht, hview hv, if_neg (by decide), hheld (queueRoom_false_iff.2 fun q hq => by rw [hv] at hq; cases hq), htake]
    simp [hdis]
  · rw [ht, hheld (queueRoom_false_iff.2 h)]
    split <;> exact ⟨rfl, rfl, rfl, rfl, rfl⟩
  · have hr : u.queueRoom = true := hroom.trans (queueRoom_iff.2 ⟨q, hv, hused⟩)
    have hcreate : u.createReport b = (counted u).writeReport (s.reportOf b) := by
      rw [createReport_empty b (by rw [hrpu, hl]) (by rw [hrpu, hd]) hr, hnum]
    have hcv : (counted u).rpu.view = some q := by simp only [counted, hrpu, hv]
    have hfields : t.rpu.view = (u.createReport b).rpu.view ∧ t.rpu.holding = (u.createReport b).rpu.holding
        ∧ t.rpu.discards = (u.createReport b).rpu.discards ∧ t.rpu.created = (u.createReport b).rpu.created
        ∧ t.rpu.writeIndex = (u.createReport b).rpu.writeIndex := by
      rw [ht]
      split <;> exact ⟨rfl, rfl, rfl, rfl, rfl⟩
    obtain ⟨hfv, hfh, hfd, hfc, hfw⟩ := hfields
    refine ⟨?_, ?_, ?_, ?_, ?_, fun ha => ?_, ?_⟩
    · rw [hfv, hcreate, writeReport_view, hcv]
    · rw [hfh, hcreate, writeReport_holding]; simp only [counted, hrpu, hl]
    · rw [hfd, hcreate, writeReport_discards]; simp only [counted, hrpu, hd]
    · rw [hfc, hcreate, writeReport_created]; simp only [counted, hrpu]
    · rw [hfw, hcreate, writeReport_writeIndex]; simp only [counted, hrpu]
    · have hca : (counted u).exc.state = .attached := hexc.trans ha
      rw [ht, if_pos ha, hcreate, writeReport_rpu, if_pos hca]
      simp [noticeReport]
    · have hmask : s.rpu.writeIndex.toNat &&& q.mask ≤ q.mask := Nat.and_le_right
      have hwords := writeReport_words (s := counted u) (s.reportOf b) hcv hend
      rw [show (counted u).rpu.writeIndex = s.rpu.writeIndex by simp only [counted, hrpu]] at hwords
      rw [← hwords, ← hcreate]
      refine List.map_congr_left fun i _ => hmem _ (by omega)

end Report

end Sys2Proof.MirrorShown
end

section
/-! PROOFS. HBW's timers and heartbeats (O25, O26): a watch expiry with a grace above 0 s, and a commit of word 40. -/

namespace Sys2Proof.HeartbeatWatching

open Sys2Proof Sys2Proof.Machine Sys2Proof.Laws Sys2Proof.ExchangeWatch Sys2Proof.MirrorShown

/-! ## The grace (O25) -/

section Grace

variable {s : State}

/-- PSQ and HBW once a grace has started, before the host is told (R100). -/
def graced (s : State) : State :=
  { s with
    psq := s.movedTo .warned
    hbw := { s.hbw with phase := .grace, watch := none, grace := some { start := s.clock, length := s.graceInForce * 1000000 } } }

theorem graced_keeps (s : State) : Keeps { psq := true, hbw := true } s (graced s) :=
  ((Keeps.refl { psq := true, hbw := true } s).set_psq rfl (s.movedTo .warned)).set_hbw rfl (graced s).hbw

/-- The report of a watch expiry (R117). -/
def warning (s : State) : ReportBody := { kind := .watchWarn, source := 0, detail := s.hbw.source.code, value := s.graceInForce }

theorem graceStart_eq (h : s.psq.state = .running) :
    s.graceStart = ((graced s).createReport (warning s)).raiseAttached noticeWarn := by
  unfold State.graceStart State.toWarned
  simp only [h]
  rfl

theorem graced_reported (s : State) : Reported (graced s) (((graced s).createReport (warning s)).raiseAttached noticeWarn) := by
  have hcreate := createReport_reported (warning s) (graced s)
  refine ⟨hcreate.keeps.trans ((raiseAttached_keeps _ _).mono (by decide)), ?_, fun a ha => ?_, fun h => ?_⟩
  · rw [raiseAttached_rpu]
    split <;> exact hcreate.view
  · rw [raiseAttached_mem]
    exact hcreate.bytes a ha
  · obtain ⟨hq, hattn, hh, hd⟩ := hcreate.ok h
    rw [RpuOk, State.reportRead, State.word, raiseAttached_mem, (raiseAttached_keeps _ _).exc rfl, raiseAttached_rpu]
    split
    · exact ⟨hq, attnOf_eq _ _, hh, hd⟩
    · exact ⟨hq, hattn, hh, hd⟩

/-- The watch's expiry as a step where a grace starts. -/
theorem exec_watchTimerExpiry {dt : Nat} {between : Option IntakeReach} {c : Countdown} (hr : s.resetting = none)
    (hrun : s.psq.state = .running) (hphase : s.hbw.phase = .watch) (hc : s.hbw.watch = some c)
    (hend : c.start + c.length ≤ s.clock + dt) (hg : s.graceInForce ≠ 0) :
    exec (.watchTimerExpiry ⟨dt, between⟩) s = .next (State.publish {} (s.elapse dt)
      (((graced (s.elapse dt)).createReport (warning s)).raiseAttached noticeWarn)) := by
  have hended : (s.elapse dt).ended (s.elapse dt).hbw.watch = true := by
    simp only [elapse_hbw, hc, State.ended, elapse_clock, hend, decide_true]
  have hlive : exec (.watchTimerExpiry ⟨dt, between⟩) s = .next
      (if (s.elapse dt).hbw.phase = .watch ∧ (s.elapse dt).ended (s.elapse dt).hbw.watch = true then
        (s.elapse dt).watchExpiry between else s.elapse dt) := live_next hr
  have hgrace : (s.elapse dt).watchExpiry between = State.act {} State.graceStart (s.elapse dt) := if_neg hg
  rw [hlive, if_pos ⟨hphase, hended⟩, hgrace, State.act, graceStart_eq (s := s.elapse dt) hrun]
  have hpsq := (graced_reported (s.elapse dt)).keeps.psq rfl
  rw [keypadFollows_running (by rw [hpsq]; rfl) fun _ => by rw [elapse_psq, hrun]; rfl]
  rfl

end Grace

/-- Settles O25: the grace is one effect, of PSQ and HBW, a report and WARN; the mirror shows it. -/
theorem watchExpiryStartsTheGrace : Obligations.WatchExpiryStartsTheGrace := by
  unfold Obligations.WatchExpiryStartsTheGrace
  intro dt between s c g hr hrun hphase hc hend hg hpos hview
  obtain rfl : g = s.graceInForce := hg
  have hrep : Reported (graced (s.elapse dt)) (((graced (s.elapse dt)).createReport (warning s)).raiseAttached noticeWarn) :=
    graced_reported (s.elapse dt)
  have k := publish_keeps {} (s.elapse dt) (((graced (s.elapse dt)).createReport (warning s)).raiseAttached noticeWarn)
  have kall : Keeps { psq := true, hbw := true, rpu := true, mem := true } (s.elapse dt)
      (State.publish {} (s.elapse dt) (((graced (s.elapse dt)).createReport (warning s)).raiseAttached noticeWarn)) := by
    exact (((graced_keeps (s.elapse dt)).mono (by decide)).trans (hrep.keeps.mono (by decide))).trans (k.mono (by decide))
  have hrpu := k.rpu rfl
  have hatt : ((graced (s.elapse dt)).createReport (warning s)).exc.state = s.exc.state :=
    congrArg Exchange.state (createReport_exc (s := graced (s.elapse dt)) (warning s))
  refine ⟨_, exec_watchTimerExpiry hr hrun hphase hc hend (by omega), (k.hbw rfl).trans (hrep.keeps.hbw rfl),
    (k.psq rfl).trans (hrep.keeps.psq rfl), ?_, fun ha => ?_, fun hd => ?_, ?_, ?_, ?_⟩
  · refine reportGiven_of (u := graced (s.elapse dt)) (bit := noticeWarn) (warning s) hview rfl rfl rfl rfl hrpu fun w hw => ?_
    rw [publish_word_high (by omega), raiseAttached_mem]
  · rw [hrpu, raiseAttached_rpu, if_pos (hatt.trans ha)]
    simp [noticeWarn]
  · rw [hrpu, raiseAttached_rpu, if_neg (by rw [hatt, hd]; decide)]
    exact (createReport_notices (s := graced (s.elapse dt)) _ (by rw [show (graced (s.elapse dt)).exc.state = _ from hd]; decide)).1
  · refine publish_mirrorFollows fun hq w h1 h2 => ?_
    exact hrep.word hq (by omega)
  · exact unchanged_of_keeps kall (by intro b; cases b <;> decide)
  · refine publish_bytesKept (old := s.elapse dt) (fun a ha => ?_) (fun w hw _ => ?_) (fun _ => by simp) fun hp => ?_
    · exact hrep.bytes a (ha s.queueSpan (by simp))
    · exact ⟨anchorSpan, by simp, anchorWatched_bounds hw⟩
    · have hsame : State.panelChanged (s.elapse dt) _ = false := panelChanged_of_kps (hrep.keeps.kps rfl)
      exact absurd (hsame.symm.trans hp) (by decide)

/-! ## A heartbeat (O26) -/

section Heartbeat

variable {s : State}

theorem toRunning_hbw : s.toRunning.hbw = s.hbw := by
  unfold State.toRunning
  split <;> rfl

/-- HBW's request of RUNNING (R75): acted on in BOOTING and WARNED. -/
theorem toRunning_psq : s.toRunning.psq =
    if s.psq.state = .booting ∨ s.psq.state = .warned then s.movedTo .running else s.psq := by
  unfold State.toRunning
  cases h : s.psq.state <;> simp only [reduceCtorEq, or_false, or_true, if_true, if_false] <;> rfl

theorem toRunning_keypadFollows {old : SeqState} (h : s.psq.state = old) : s.toRunning.keypadFollows old = s.toRunning := by
  by_cases hb : s.psq.state = .booting ∨ s.psq.state = .warned
  · have hpsq : s.toRunning.psq = s.movedTo .running := toRunning_psq.trans (if_pos hb)
    refine keypadFollows_running (by rw [hpsq]; rfl) fun _ => ?_
    rw [← h]
    rcases hb with hb | hb <;> rw [hb] <;> rfl
  · exact keypadFollows_unchanged (by rw [toRunning_psq, if_neg hb, h])

/-- The part once word 40 is committed and its heartbeat counted, before the watch acts (R96). -/
def seen (v : Word) (s : State) : State :=
  { committed 40 v s with hbw := { s.hbw with lastValue := v, lastStamp := some s.uptime, count := s.hbw.count + 1 } }

theorem commitWord_same {v : Word} (h : v = s.hbw.lastValue) : s.commitWord 40 v = committed 40 v s := if_pos h

theorem commitWord_seen {v : Word} (h : v ≠ s.hbw.lastValue) : s.commitWord 40 v = (seen v s).heartbeatActs := if_neg h

/-- What a heartbeat does by the watch phase (R97), phase by phase. -/
theorem heartbeatActs_eq : s.heartbeatActs = (match s.hbw.phase with
    | .boot => State.toRunning (State.watchOn { s with hbw := { s.hbw with source := .settings } })
    | .watch => s.watchOn
    | .grace => s.watchOn.toRunning
    | .none | .disarmed => s) := by
  unfold State.heartbeatActs
  cases s.hbw.phase <;> rfl

/-- KPS has nothing to answer to a heartbeat. -/
theorem heartbeatActs_keypadFollows {old : SeqState} (h : s.psq.state = old) :
    s.heartbeatActs.keypadFollows old = s.heartbeatActs := by
  rw [heartbeatActs_eq]
  cases s.hbw.phase with
  | none => exact keypadFollows_unchanged h
  | boot => exact toRunning_keypadFollows h
  | watch => exact keypadFollows_unchanged h
  | grace => exact toRunning_keypadFollows h
  | disarmed => exact keypadFollows_unchanged h

theorem committed_keeps (w : Nat) (v : Word) (s : State) : Keeps { exc := true, mem := true } s (committed w v s) :=
  ((Keeps.refl { exc := true, mem := true } s).set_exc rfl { s.exc with staging := none }).trans
    ((setWord_keeps w v _).mono (by decide))

/-- The staging latch stands in no anchor word (R179). -/
theorem committed_anchorValue (w : Nat) (v : Word) (s : State) (x : Nat) :
    (committed w v s).anchorValue x = s.anchorValue x := rfl

theorem exec_heartbeat {dt : Nat} {v : Word} (hr : s.resetting = none) :
    exec (.heartbeat dt v) s = .next (State.act {} (State.commitWord 40 v) (s.elapse dt)) :=
  command_next (f := State.commitWord 40 v) hr

theorem act_committed {v : Word} (h : v = s.hbw.lastValue) : State.act {} (State.commitWord 40 v) s = committed 40 v s := by
  rw [State.act, commitWord_same h, keypadFollows_unchanged (old := s.psq.state) (s := committed 40 v s) rfl]
  exact publish_silent (committed_anchorValue 40 v s) (supervisionChanged_same rfl rfl rfl rfl) (panelChanged_of_kps rfl)

theorem act_seen {v : Word} (h : v ≠ s.hbw.lastValue) :
    State.act {} (State.commitWord 40 v) s = State.publish {} s (seen v s).heartbeatActs := by
  rw [State.act, commitWord_seen h, heartbeatActs_keypadFollows (s := seen v s) (old := s.psq.state) rfl]

end Heartbeat

/-- The value that HBW last saw is committed, and no more. -/
theorem heartbeat_repeated (dt : Nat) (v : Word) (s : State) (hr : s.resetting = none) (hv : v = s.hbw.lastValue) :
    ∃ t, exec (.heartbeat dt v) s = .next t ∧ CommittedOnly 40 v s t := by
  refine ⟨_, exec_heartbeat hr, ?_⟩
  rw [act_committed (s := s.elapse dt) hv]
  refine ⟨rfl, word_setWord_self _ _ _ (by omega), unchanged_of_keeps (committed_keeps 40 v (s.elapse dt)) ?_, fun a ha => ?_⟩
  · intro b
    cases b <;> decide
  · exact byte_setWord_frame _ _ _ _ (by simpa using ha)

/-- Settles O26: by whether the value is another, and then by the watch phase. -/
theorem heartbeatActsByThePhase : Obligations.HeartbeatActsByThePhase := by
  unfold Obligations.HeartbeatActsByThePhase
  refine ⟨heartbeat_repeated, fun dt v s hr hv => ⟨_, exec_heartbeat hr, ?_⟩⟩
  rw [act_seen (s := s.elapse dt) hv]
  have kseen : Keeps { exc := true, mem := true, hbw := true } (s.elapse dt) (seen v (s.elapse dt)) :=
    ((committed_keeps 40 v (s.elapse dt)).mono (by decide)).set_hbw rfl _
  have kacts := heartbeatActs_keeps (seen v (s.elapse dt))
  have kpub := publish_keeps {} (s.elapse dt) (seen v (s.elapse dt)).heartbeatActs
  have hmem : (seen v (s.elapse dt)).heartbeatActs.mem = s.mem.setWord 40 v := kacts.mem rfl
  have hanchor (w : Nat) : (seen v (s.elapse dt)).heartbeatActs.anchorValue w = (s.elapse dt).anchorValue w :=
    anchorValue_of_keeps (kacts.mono (by decide)) w
  have kall : Keeps { psq := true, hbw := true, exc := true, mem := true } (s.elapse dt)
      (State.publish {} (s.elapse dt) (seen v (s.elapse dt)).heartbeatActs) :=
    ((kseen.mono (by decide)).trans (kacts.mono (by decide))).trans (kpub.mono (by decide))
  refine ⟨?_, (kpub.exc rfl).trans (kacts.exc rfl), ?_, publish_mirrorFollows fun _ w h1 _ => ?_,
    unchanged_of_keeps kall (by intro b; cases b <;> decide), publish_bytesKept (old := s.elapse dt) (fun a ha => ?_)
      (fun w _ hne => absurd (hanchor w).symm hne) (fun _ => by simp) fun hp => ?_⟩
  · rw [publish_word_low _ _ _ (by omega), if_neg fun h => h.2 (hanchor 40).symm, hmem]
    exact word_setWord_self _ _ _ (by omega)
  · rw [kpub.hbw rfl, kpub.psq rfl, heartbeatActs_eq]
    cases hp : s.hbw.phase with
    | none => simp only [seen, elapse_hbw, hp]; exact ⟨rfl, rfl⟩
    | boot => simp only [seen, elapse_hbw, hp, toRunning_hbw, toRunning_psq]; exact ⟨rfl, rfl⟩
    | watch => simp only [seen, elapse_hbw, hp]; exact ⟨rfl, rfl⟩
    | grace => simp only [seen, elapse_hbw, hp, toRunning_hbw, toRunning_psq]; exact ⟨rfl, rfl⟩
    | disarmed => simp only [seen, elapse_hbw, hp]; exact ⟨rfl, rfl⟩
  · rw [hmem]
    exact word_setWord_frame _ _ _ _ (by omega)
  · rw [hmem]
    exact byte_setWord_frame _ _ _ _ (by simpa using ha (40, 41) (by simp))
  · have hsame : State.panelChanged (s.elapse dt) _ = false := panelChanged_of_kps ((kacts.kps rfl).trans (kseen.kps rfl))
    exact absurd (hsame.symm.trans hp) (by decide)

end Sys2Proof.HeartbeatWatching
end

section
/-! PROOFS. The take of an order (O40, O41): an order that the queue offers is examined by its owner in the state with the order
in hand, and the host is shown what that changed (R172, R173). -/

namespace Sys2Proof.OrdersTaken

open Sys2Proof Sys2Proof.Machine Sys2Proof.Laws Sys2Proof.ExchangeWatch Sys2Proof.MirrorShown

section Take

variable {k : OrderKind} {r : OrderRecord} {s u : State} {dt : Nat} {res : Option OrderResult}

theorem offers_record (h : s.offers k r) : s.taken.record = r := by
  obtain ⟨-, -, -, -, hrec, -⟩ := h
  exact hrec

theorem offers_code (h : s.offers k r) : OrderKind.ofCode r.code = some k := by
  obtain ⟨-, -, -, -, -, hcode, -⟩ := h
  exact hcode

theorem nextIs_of_offers (h : s.offers k r) : s.nextIs k = true := by
  obtain ⟨-, hatt, hhand, hindex, hrec, hcode, -, -⟩ := h
  have hrecord : s.taken.record = r := hrec
  simp [State.nextIs, State.canTake, hatt, hhand, hindex, hrecord, hcode]

theorem examine_of_offers (h : s.offers k r) (v : State) : v.examine r = v.perform k r := by
  obtain ⟨-, -, -, -, -, hcode, hvoid, hclear⟩ := h
  simp [State.examine, hvoid, hcode, hclear]

/-- The state after the take of an order whose owner left `u` and answered `res`. -/
def tookIn (s : State) (r : OrderRecord) (u : State) (res : Option OrderResult) : State := { u with exc := s.takenWith r res }

theorem takeOrder_offered (h : s.offers k r) (hp : (orderTaken s).perform k r = (u, res))
    (hexc : u.exc = (orderTaken s).exc) : s.takeOrder = tookIn s r u res := by
  have hrec := offers_record h
  rw [takeOrder_eq, hrec, examine_of_offers h, hp]
  simp only [hexc, orderTaken, tookIn, State.takenWith, Option.map_some, State.taken]
  rw [show s.recordAt s.orderSlot = r from hrec]

theorem exec_take (hs : s.offers k r) :
    exec (k.command dt .carryOut) s = .next (State.act {} State.takeOrder (s.elapse dt)) := by
  have hlive : exec (k.command dt .carryOut) s = .next ((s.elapse dt).takeKind k) := by
    have h : s.order dt k .carryOut = .next ((s.elapse dt).takeKind k) := live_next hs.1
    rw [← h]
    cases k <;> rfl
  have hnext : (s.elapse dt).takeKind k = State.act {} State.takeOrder (s.elapse dt) :=
    if_pos (nextIs_of_offers (s := s.elapse dt) hs)
  rw [hlive, hnext]

/-- The take of an offered order, where KPS has nothing to answer. -/
theorem exec_took (hs : s.offers k r) (hp : (orderTaken (s.elapse dt)).perform k r = (u, res))
    (kp : Keeps { psq := true, hbw := true, mem := true } (orderTaken (s.elapse dt)) u)
    (hstate : u.psq.state = s.psq.state ∨ u.psq.state = .running ∧ s.psq.state.up = true) :
    exec (k.command dt .carryOut) s = .next (State.publish {} (s.elapse dt) (tookIn s r u res)) := by
  have htake : (s.elapse dt).takeOrder = tookIn s r u res := takeOrder_offered (s := s.elapse dt) hs hp (kp.exc rfl)
  have hkeypad : (tookIn s r u res).keypadFollows s.psq.state = tookIn s r u res := by
    rcases hstate with h | ⟨hrun, hup⟩
    · exact keypadFollows_unchanged h
    · have hrun' : (tookIn s r u res).psq.state = .running := hrun
      exact keypadFollows_running (by rw [hrun']; rfl) fun _ => hup
  rw [exec_take hs, State.act, htake, elapse_psq, hkeypad]

/-! ## What the take shows -/

theorem took_mirror (h : ∀ w, 64 ≤ w → w < 192 → u.mem.word w = s.mem.word w) :
    MirrorFollows s (State.publish {} (s.elapse dt) (tookIn s r u res))  :=
  publish_mirrorFollows (u := tookIn s r u res) fun _ => h

theorem took_psq : (State.publish {} (s.elapse dt) (tookIn s r u res)).psq = u.psq := (publish_keeps _ _ _).psq rfl
theorem took_hbw : (State.publish {} (s.elapse dt) (tookIn s r u res)).hbw = u.hbw := (publish_keeps _ _ _).hbw rfl
theorem took_exc : (State.publish {} (s.elapse dt) (tookIn s r u res)).exc = s.takenWith r res := (publish_keeps _ _ _).exc rfl

variable (kp : Keeps { psq := true, hbw := true, mem := true } (orderTaken (s.elapse dt)) u)

include kp

theorem tookIn_keeps : Keeps { psq := true, hbw := true, exc := true, mem := true } (s.elapse dt) (tookIn s r u res) := by
  have htaken : Keeps { psq := true, hbw := true, exc := true, mem := true } (s.elapse dt) (orderTaken (s.elapse dt)) :=
    .set_exc (.refl _ _) rfl _
  exact (htaken.trans (kp.mono (by decide))).set_exc rfl _

/-- The order code is all of the anchor that a take changes (R179). -/
theorem tookIn_anchorValue {w : Nat} (hw : w ≠ 13) : (tookIn s r u res).anchorValue w = (s.elapse dt).anchorValue w := by
  have k' := tookIn_keeps (r := r) (res := res) kp
  unfold State.anchorValue
  rw [k'.rpu rfl, k'.sst rfl, k'.uptime, k'.resetCause]
  split <;> first | rfl | exact absurd rfl hw

theorem tookIn_panel : State.panelChanged (s.elapse dt) (tookIn s r u res) = false :=
  panelChanged_of_kps (s := tookIn s r u res) (kp.kps rfl)

theorem took_unchanged : Unchanged [.clock, .psq, .hbw, .exc, .window] s
    (State.publish {} (s.elapse dt) (tookIn s r u res)) :=
  unchanged_of_keeps ((tookIn_keeps kp).trans ((publish_keeps _ _ _).mono (by decide))) (by intro b; cases b <;> decide)

/-- The take's frame: the order code, the supervision section, and what the owner wrote. -/
theorem took_bytesKept {spans : List (Nat × Nat)} (h : BytesKept spans s u) (h13 : (13, 14) ∈ spans)
    (hsup : supervisionSpan ∈ spans) : BytesKept spans s (State.publish {} (s.elapse dt) (tookIn s r u res)) := by
  refine publish_bytesKept (old := s.elapse dt) h (fun w _ hne => ?_) (fun _ => hsup) fun hp => ?_
  · by_cases hw : w = 13
    · subst hw
      exact ⟨_, h13, by omega, by omega⟩
    · exact absurd (tookIn_anchorValue kp hw).symm hne
  · exact absurd ((tookIn_panel kp).symm.trans hp) (by decide)

end Take

/-- An order that its owner refuses changes nothing (R173). -/
theorem refusedWith_of_perform {k : OrderKind} {r : OrderRecord} {s : State} {dt : Nat} {o : OrderOutcome} (hs : s.offers k r)
    (hp : (orderTaken (s.elapse dt)).perform k r = (orderTaken (s.elapse dt), some (orderRefused o))) :
    ∃ t, exec (k.command dt .carryOut) s = .next t ∧ RefusedWith r o s t := by
  have kp : Keeps { psq := true, hbw := true, mem := true } (orderTaken (s.elapse dt)) (orderTaken (s.elapse dt)) := .refl _ _
  have htaken : Keeps { exc := true } (s.elapse dt) (orderTaken (s.elapse dt)) := .set_exc (.refl _ _) rfl _
  have hpub := publish_keeps {} (s.elapse dt) (tookIn s r (orderTaken (s.elapse dt)) (some (orderRefused o)))
  refine ⟨_, exec_took hs hp kp (.inl rfl), took_exc, unchanged_of_keeps (bs := { exc := true, mem := true })
    (((htaken.set_exc rfl _).mono (by decide)).trans (hpub.mono (by decide))) (by intro b; cases b <;> decide), ?_⟩
  refine publish_bytesKept (old := s.elapse dt) (fun _ _ => rfl) (fun w _ hne => ?_) (fun hc => ?_) fun hc => ?_
  · by_cases hw : w = 13
    · subst hw
      exact ⟨_, List.mem_singleton_self _, by omega, by omega⟩
    · exact absurd (tookIn_anchorValue kp hw).symm hne
  · have hsame : State.supervisionChanged (s.elapse dt) (tookIn s r (orderTaken (s.elapse dt)) (some (orderRefused o))) = false :=
      supervisionChanged_same rfl rfl rfl rfl
    exact absurd (hsame.symm.trans hc) (by decide)
  · exact absurd ((tookIn_panel kp).symm.trans hc) (by decide)

end Sys2Proof.OrdersTaken
end

section
/-! PROOFS. ARM_WATCH and DISARM_WATCH (O40). -/

namespace Sys2Proof.WatchOrders

open Sys2Proof Sys2Proof.Machine Sys2Proof.Laws Sys2Proof.ExchangeWatch Sys2Proof.MirrorShown Sys2Proof.OrdersTaken
  Sys2Proof.HeartbeatWatching

section Armed

variable {s : State} {dt : Nat} {r : OrderRecord}

/-- HBW armed by an order (R103). -/
def armedWatch (src : ArmSource) (ow og w now : Nat) (s : State) : HeartbeatWatch :=
  { s.hbw with
    phase := .watch, source := src, orderWindow := ow, orderGrace := og, boot := none, grace := none
    watch := some { start := now, length := w * 1000000 } }

theorem armed_hbw_settings (ow og : Nat) :
    (s.armed .settings ow og).hbw = armedWatch .settings ow og (s.setting 66).toNat s.clock s := by
  unfold State.armed
  rw [toRunning_hbw]
  rfl

theorem armed_hbw_order (ow og : Nat) : (s.armed .order ow og).hbw = armedWatch .order ow og ow s.clock s := by
  unfold State.armed
  rw [toRunning_hbw]
  rfl

/-- PSQ after HBW's request of RUNNING (R75). -/
def movedOn (s : State) : Sequencer := if s.psq.state = .booting ∨ s.psq.state = .warned then s.movedTo .running else s.psq

theorem armed_psq (src : ArmSource) (ow og : Nat) : (s.armed src ow og).psq = movedOn s := by
  unfold State.armed
  rw [toRunning_psq]
  rfl

theorem movedOn_state (h : s.psq.state.up = true) :
    (movedOn s).state = s.psq.state ∨ (movedOn s).state = .running ∧ s.psq.state.up = true := by
  unfold movedOn
  split
  · exact .inr ⟨rfl, h⟩
  · exact .inl rfl

theorem armed_graceInForce_settings (ow og : Nat) : (s.armed .settings ow og).graceInForce = (s.setting 67).toNat := by
  have hset : (s.armed .settings ow og).settingNat 67 = (s.setting 67).toNat := by
    rw [State.settingNat, State.setting, (armed_keeps _ _ _ s).sst rfl]
    rfl
  unfold State.graceInForce
  rw [armed_hbw_settings]
  exact hset

theorem armed_windowInForce_settings (ow og : Nat) : (s.armed .settings ow og).windowInForce = (s.setting 66).toNat := by
  have hset : (s.armed .settings ow og).settingNat 66 = (s.setting 66).toNat := by
    rw [State.settingNat, State.setting, (armed_keeps _ _ _ s).sst rfl]
    rfl
  unfold State.windowInForce
  rw [armed_hbw_settings]
  exact hset

theorem armed_graceInForce_order (ow og : Nat) : (s.armed .order ow og).graceInForce = og := by
  unfold State.graceInForce
  rw [armed_hbw_order]
  rfl

theorem armed_windowInForce_order (ow og : Nat) : (s.armed .order ow og).windowInForce = ow := by
  unfold State.windowInForce
  rw [armed_hbw_order]
  rfl

end Armed

/-! ## The order's owner (R103, R104) -/

section Owner

variable {r : OrderRecord} {s : State}

theorem orderArmWatch_badOperand (h : 1 < r.w3.toNat ∨ r.w3 = 1#32 ∧ (r.w1 ≠ 0#32 ∨ r.w2 ≠ 0#32)) :
    orderArmWatch r s = (s, some (orderRefused .badOperand)) := if_pos h

theorem operands_good (h : r.w3 = 0#32 ∨ r.w3 = 1#32 ∧ r.w1 = 0#32 ∧ r.w2 = 0#32) :
    ¬ (1 < r.w3.toNat ∨ r.w3 = 1#32 ∧ (r.w1 ≠ 0#32 ∨ r.w2 ≠ 0#32)) := by
  rcases h with h | ⟨h, h1, h2⟩
  · simp [h]
  · simp [h, h1, h2]

theorem orderArmWatch_wrongState (h : r.w3 = 0#32 ∨ r.w3 = 1#32 ∧ r.w1 = 0#32 ∧ r.w2 = 0#32) (hup : s.psq.state.up = false) :
    orderArmWatch r s = (s, some (orderRefused .wrongState)) := (if_neg (operands_good h)).trans (if_pos hup)

theorem orderArmWatch_settings (h3 : r.w3 = 1#32) (h1 : r.w1 = 0#32) (h2 : r.w2 = 0#32) (hup : s.psq.state.up = true) :
    orderArmWatch r s = (s.armed .settings s.hbw.orderWindow s.hbw.orderGrace,
      some { outcome := .done, value := BitVec.ofNat 32 (s.setting 66).toNat, detail := BitVec.ofNat 32 (s.setting 67).toNat }) := by
  unfold orderArmWatch
  rw [if_neg (operands_good (.inr ⟨h3, h1, h2⟩)), if_neg (by simp [hup]), if_pos h3]
  simp [armResult, armed_windowInForce_settings, armed_graceInForce_settings]

theorem orderArmWatch_order (h3 : r.w3 = 0#32) (hup : s.psq.state.up = true) :
    orderArmWatch r s = (s.armed .order (clampBetween 1 600 r.w1.toInt).toNat (clampBetween 0 60 r.w2.toInt).toNat,
      some { outcome := if clampBetween 1 600 r.w1.toInt = r.w1.toInt ∧ clampBetween 0 60 r.w2.toInt = r.w2.toInt then .done
                        else .clamped
             value := BitVec.ofNat 32 (clampBetween 1 600 r.w1.toInt).toNat
             detail := BitVec.ofNat 32 (clampBetween 0 60 r.w2.toInt).toNat }) := by
  unfold orderArmWatch
  rw [if_neg (operands_good (.inl h3)), if_neg (by simp [hup]), if_neg (by simp [h3])]
  by_cases hw : clampBetween 1 600 r.w1.toInt = r.w1.toInt
  · by_cases hg : clampBetween 0 60 r.w2.toInt = r.w2.toInt
    · simp [armResult, armed_windowInForce_order, armed_graceInForce_order, hw, hg]
    · simp [armResult, armed_windowInForce_order, armed_graceInForce_order, hg]
  · simp [armResult, armed_windowInForce_order, armed_graceInForce_order, hw]

/-- A clamped operand is written as the number that it is. -/
theorem ofNat_clamp {lo hi v : Int} (h : 0 ≤ lo) (hle : lo ≤ hi) :
    BitVec.ofNat 32 (clampBetween lo hi v).toNat = BitVec.ofInt 32 (clampBetween lo hi v) := by
  have hpos : 0 ≤ clampBetween lo hi v := by
    unfold clampBetween
    split
    · exact h
    · split <;> omega
  obtain ⟨n, hn⟩ := Int.eq_ofNat_of_zero_le hpos
  rw [hn]
  simp

theorem orderDisarmWatch_wrongState (h : s.psq.state ≠ .running) (h' : s.psq.state ≠ .warned) :
    orderDisarmWatch s = (s, some (orderRefused .wrongState)) := if_pos ⟨h, h'⟩

theorem orderDisarmWatch_locked (h : s.psq.state = .running ∨ s.psq.state = .warned) (hw : s.kps.window = none) :
    orderDisarmWatch s = (s, some (orderRefused .locked)) := by
  refine (if_neg (by tauto)).trans (if_pos ?_)
  rw [State.windowOpen, hw]
  rfl

/-- The part disarmed, before PSQ hears of it (R104). -/
def disarmed (s : State) : State := { s with hbw := { s.hbw with phase := .disarmed, boot := none, watch := none, grace := none } }

theorem orderDisarmWatch_done (h : s.psq.state = .running ∨ s.psq.state = .warned) (hw : s.kps.window ≠ none) :
    orderDisarmWatch s = ((disarmed s).disarmToRunning, some (orderDone (BitVec.ofNat 32 s.hbw.phase.code) 0#32)) := by
  refine (if_neg (by tauto)).trans (if_neg ?_)
  rw [State.windowOpen, Bool.not_eq_false]
  exact Option.isSome_iff_ne_none.2 hw

theorem disarmToRunning_hbw : s.disarmToRunning.hbw = s.hbw := by
  unfold State.disarmToRunning
  split <;> rfl

theorem disarmToRunning_psq (h : s.psq.state = .running ∨ s.psq.state = .warned) : s.disarmToRunning.psq = movedOn s := by
  unfold State.disarmToRunning movedOn
  rcases h with h | h <;> simp only [h, reduceCtorEq, or_false, or_true, if_true, if_false]
  rfl

end Owner

/-- An order whose owner changes PSQ and HBW alone, as the host is shown it. -/
theorem carriedOut {k : OrderKind} {r : OrderRecord} {s u : State} {dt : Nat} {res : OrderResult} (hs : s.offers k r)
    (hp : (orderTaken (s.elapse dt)).perform k r = (u, some res))
    (kp : Keeps { psq := true, hbw := true } (orderTaken (s.elapse dt)) u) (hpsq : u.psq = movedOn s)
    (hup : s.psq.state.up = true) :
    ∃ t, exec (k.command dt .carryOut) s = .next t ∧ t.hbw = u.hbw ∧ t.psq = movedOn s ∧ t.exc = s.takenWith r (some res)
      ∧ Unchanged [.clock, .psq, .hbw, .exc, .window] s t ∧ BytesKept [(13, 14), supervisionSpan] s t ∧ MirrorFollows s t := by
  have kp' : Keeps { psq := true, hbw := true, mem := true } (orderTaken (s.elapse dt)) u := kp.mono (by decide)
  have hmem : u.mem = s.mem := kp.mem rfl
  refine ⟨_, exec_took hs hp kp' (by rw [hpsq]; exact movedOn_state hup), took_hbw, took_psq.trans hpsq, took_exc,
    took_unchanged kp', took_bytesKept kp' (fun a _ => by rw [hmem]) (by simp) (by simp), took_mirror fun w _ _ => by rw [hmem]⟩

/-- Settles O40: each order by its owner's answer, refused or carried out. -/
theorem watchOrdersArmAndDisarm : Obligations.WatchOrdersArmAndDisarm := by
  unfold Obligations.WatchOrdersArmAndDisarm
  refine ⟨fun dt r s hs h => refusedWith_of_perform hs (orderArmWatch_badOperand h),
    fun dt r s hs h hup => refusedWith_of_perform hs (orderArmWatch_wrongState h hup),
    fun dt r s hs h3 h1 h2 hup => ?_, fun dt r s hs h3 hup => ?_,
    fun dt r s hs h h' => refusedWith_of_perform hs (orderDisarmWatch_wrongState h h'),
    fun dt r s hs h hw => refusedWith_of_perform hs (orderDisarmWatch_locked h hw), fun dt r s hs h hw => ?_⟩
  · obtain ⟨t, ht, hhbw, hpsq, hexc, hframe⟩ :=
      carriedOut hs (orderArmWatch_settings (s := orderTaken (s.elapse dt)) h3 h1 h2 hup) (armed_keeps _ _ _ _)
        (armed_psq _ _ _) hup
    exact ⟨t, ht, hhbw.trans (armed_hbw_settings _ _), hpsq, hexc, hframe⟩
  · obtain ⟨t, ht, hhbw, hpsq, hexc, hframe⟩ :=
      carriedOut hs (orderArmWatch_order (s := orderTaken (s.elapse dt)) h3 hup) (armed_keeps _ _ _ _) (armed_psq _ _ _) hup
    rw [ofNat_clamp (by decide) (by decide), ofNat_clamp (by decide) (by decide)] at hexc
    exact ⟨t, ht, ⟨hhbw.trans (armed_hbw_order _ _), hpsq, hexc⟩, hframe⟩
  · have hup : s.psq.state.up = true := by rcases h with h | h <;> rw [h] <;> rfl
    obtain ⟨t, ht, hhbw, hpsq, hexc, hframe⟩ :=
      carriedOut hs (orderDisarmWatch_done (s := orderTaken (s.elapse dt)) h hw)
        ((Keeps.set_hbw (.refl { psq := true, hbw := true } _) rfl _).trans (disarmToRunning_keeps _))
        (disarmToRunning_psq (s := disarmed (orderTaken (s.elapse dt))) h) hup
    exact ⟨t, ht, hhbw.trans disarmToRunning_hbw, hpsq, hexc, hframe⟩

end Sys2Proof.WatchOrders
end

section
/-! PROOFS. A failure taken (O41): the record at the list's tail, the room made for it (R110), and the region that shows the list
(R112, R180). -/

namespace Sys2Proof.FailuresTaken

open Sys2Proof Sys2Proof.Machine Sys2Proof.Laws Sys2Proof.ExchangeWatch Sys2Proof.MirrorShown Sys2Proof.OrdersTaken

/-! ## Fields side by side -/

/-- A field put above a number that ends below it is added to it. -/
theorem or_fieldAt {a lo len v : Nat} (ha : a < 2 ^ lo) :
    BitVec.ofNat 32 a ||| fieldAt lo len v = BitVec.ofNat 32 (a + v % 2 ^ len * 2 ^ lo) := by
  apply BitVec.eq_of_toNat_eq
  have hshift : (fieldAt lo len v).toNat = (v % 2 ^ len * 2 ^ lo) % 2 ^ 32 := by
    simp only [fieldAt, BitVec.toNat_shiftLeft, BitVec.toNat_ofNat, Nat.shiftLeft_eq, Nat.mod_mul_mod]
  rw [BitVec.toNat_or, hshift, BitVec.toNat_ofNat, BitVec.toNat_ofNat, ← Nat.or_mod_two_pow, Nat.or_comm, Nat.mul_comm,
    ← Nat.two_pow_add_eq_or_of_lt ha, Nat.add_comm]

theorem fieldAt_zero (len v : Nat) : fieldAt 0 len v = BitVec.ofNat 32 (v % 2 ^ len) := by
  simp [fieldAt]

theorem boolCode_eq (b : Bool) (n : Nat) : boolCode b % 2 ^ 1 * 2 ^ n = if b = true then 2 ^ n else 0 := by
  cases b <;> simp [boolCode]

theorem Cause.code_lt (c : Cause) : c.code % 2 ^ 4 = c.code := by cases c <;> rfl
theorem CauseKind.code_lt (k : CauseKind) : k.code < 2 ^ 3 := by cases k <;> decide
theorem Action.code_lt (a : Action) : a.code < 2 ^ 2 := by cases a <;> decide
theorem SeqState.code_lt (q : SeqState) : q.code < 2 ^ 4 := by cases q <;> decide

/-- The first word of a record (R180). -/
theorem record_word_zero (r : HistoryRecord) :
    fieldAt 0 16 r.sequence ||| fieldAt 16 4 r.cause.code ||| fieldAt 20 3 r.kind.code ||| fieldAt 24 2 r.action.code
      ||| fieldAt 28 1 (boolCode r.counted) =
    BitVec.ofNat 32 (r.sequence % 65536 + r.cause.code * 2 ^ 16 + r.kind.code * 2 ^ 20 + r.action.code * 2 ^ 24
      + (if r.counted = true then 2 ^ 28 else 0)) := by
  have hc := Cause.code_lt r.cause
  have hc' : r.cause.code < 2 ^ 4 := hc ▸ Nat.mod_lt _ (by decide)
  have hk := CauseKind.code_lt r.kind
  have ha := Action.code_lt r.action
  have hs : r.sequence % 2 ^ 16 < 2 ^ 16 := Nat.mod_lt _ (by decide)
  rw [fieldAt_zero, or_fieldAt hs, hc, or_fieldAt (by omega), Nat.mod_eq_of_lt hk, or_fieldAt (by omega),
    Nat.mod_eq_of_lt ha, or_fieldAt (by omega), boolCode_eq]
  rfl

/-- The sixth word of a record (R180). -/
theorem record_word_five (r : HistoryRecord) :
    fieldAt 0 8 r.lastOrder ||| fieldAt 8 4 r.seqState.code ||| fieldAt 16 1 (boolCode r.attached) =
    BitVec.ofNat 32 (r.lastOrder % 256 + r.seqState.code * 2 ^ 8 + (if r.attached = true then 2 ^ 16 else 0)) := by
  have hq := SeqState.code_lt r.seqState
  have hl : r.lastOrder % 2 ^ 8 < 2 ^ 8 := Nat.mod_lt _ (by decide)
  rw [fieldAt_zero, or_fieldAt hl, Nat.mod_eq_of_lt hq, or_fieldAt (by omega), boolCode_eq]
  rfl

/-! ## The history region -/

theorem record_words_length (r : HistoryRecord) : r.words.length = 8 := rfl

theorem records_length (l : List HistoryRecord) : (l.flatMap HistoryRecord.words).length = 8 * l.length := by
  induction l with
  | nil => rfl
  | cons r l ih => rw [List.flatMap_cons, List.length_append, ih, record_words_length, List.length_cons]; omega

theorem records_getD {l : List HistoryRecord} {i j : Nat} (hi : i < l.length) (hj : j < 8) :
    (l.flatMap HistoryRecord.words)[8 * i + j]? = l[i].words[j]? := by
  induction l generalizing i with
  | nil => cases hi
  | cons r l ih =>
    cases i with
    | zero =>
      rw [List.flatMap_cons, List.getElem?_append_left (by rw [record_words_length]; omega), Nat.mul_zero, Nat.zero_add]
      rfl
    | succ i =>
      rw [List.flatMap_cons, List.getElem?_append_right (by rw [record_words_length]; omega), record_words_length,
        show 8 * (i + 1) + j - 8 = 8 * i + j by omega, ih (Nat.lt_of_succ_lt_succ hi)]
      rfl

theorem historyWords_eq {l : List HistoryRecord} (h : l.length ≤ 8) : historyWords l =
    l.flatMap HistoryRecord.words ++ List.replicate (64 - 8 * l.length) 0#32 := by
  have htake : l.take Config.historyMax = l := List.take_of_length_le h
  simp only [historyWords, htake, records_length]

theorem historyWords_length (l : List HistoryRecord) : (historyWords l).length = 64 := by
  have htake : (l.take 8).length ≤ 8 := List.length_take_le 8 l
  have hlen : ((l.take Config.historyMax).flatMap HistoryRecord.words).length = 8 * (l.take 8).length := records_length _
  simp only [historyWords, List.length_append, List.length_replicate, hlen]
  omega

/-- A window whose words from 192 on are a list's shows that list (R112). -/
theorem historyShown_of_words {t : State} (hlen : t.hbw.history.length ≤ 8)
    (hwords : ∀ i, i < 64 → t.mem.word (192 + i) = (historyWords t.hbw.history).getD i 0#32) : HistoryShown t := by
  refine ⟨fun i h => ?_, fun w h1 h2 => ?_⟩
  · have hword (j : Nat) (hj : j < 8) : t.mem.word (192 + 8 * i + j) = (t.hbw.history[i].words).getD j 0#32 := by
      rw [Nat.add_assoc, hwords (8 * i + j) (by omega), historyWords_eq hlen, List.getD, List.getD,
        List.getElem?_append_left (by rw [records_length]; omega), records_getD h hj]
    exact ⟨(hword 0 (by omega)).trans (record_word_zero _), hword 1 (by omega), hword 2 (by omega), hword 3 (by omega),
      hword 4 (by omega), (hword 5 (by omega)).trans (record_word_five _), hword 6 (by omega), hword 7 (by omega)⟩
  · have hw := hwords (w - 192) (by omega)
    rw [show 192 + (w - 192) = w by omega] at hw
    rw [hw, historyWords_eq hlen, List.getD, List.getElem?_append_right (by rw [records_length]; omega),
      List.getElem?_replicate]
    split <;> rfl

/-! ## Room for a record (R110 step 1) -/

theorem makeRoom_short {l : List HistoryRecord} (h : l.length < 8) : makeRoom l = l := if_pos h

theorem dropOther_first {front back : List HistoryRecord} {x : HistoryRecord} (hf : ∀ y ∈ front, y.kind = .automatic)
    (hx : x.kind ≠ .automatic) : dropOther (front ++ x :: back) = some (front ++ back) := by
  induction front with
  | nil => exact if_neg hx
  | cons y front ih =>
    rw [List.cons_append, dropOther, if_pos (hf y List.mem_cons_self), ih fun z hz => hf z (List.mem_cons_of_mem y hz)]
    rfl

theorem dropOther_none {l : List HistoryRecord} (h : ∀ y ∈ l, y.kind = .automatic) : dropOther l = none := by
  induction l with
  | nil => rfl
  | cons y l ih =>
    rw [dropOther, if_pos (h y List.mem_cons_self), ih fun z hz => h z (List.mem_cons_of_mem y hz)]
    rfl

theorem makeRoom_full {l : List HistoryRecord} (h : l.length = 8) : makeRoom l = (dropOther l).getD l.tail :=
  if_neg (by rw [h]; decide)

/-- HBW once a record is made and the watch is off (R108, R110): what the step leaves of it. -/
theorem failureTaken_of {s t u : State} {r : HistoryRecord} (hu : u = (s.recordFailure r).watchOff) (hhbw : t.hbw = u.hbw)
    (hmem : ∀ w, 192 ≤ w → w < 256 → t.mem.word w = u.mem.word w) : FailureTaken r s t := by
  subst hu
  have hlist : t.hbw.history = makeRoom s.hbw.history ++ [r] := by rw [hhbw]; rfl
  have hregion : (s.recordFailure r).watchOff.mem = s.mem.setWords 192 (historyWords (makeRoom s.hbw.history ++ [r])) := rfl
  refine ⟨?_, fun h => ?_, fun front back x he h hf hx => ?_, fun h hall => ?_, fun h _ => ?_, ?_, ?_, ?_, ?_, ?_, ?_, ?_, ?_⟩
  · rw [hlist, List.getLast?_append]
    rfl
  · rw [hlist, makeRoom_short h]
  · rw [hlist, makeRoom_full h, he, dropOther_first hf hx]
    rfl
  · rw [hlist, makeRoom_full h, dropOther_none hall]
    rfl
  · have hlen : t.hbw.history.length ≤ 8 := by
      have := makeRoom_length h
      rw [hlist, List.length_append, List.length_singleton]
      omega
    refine historyShown_of_words hlen fun i hi => ?_
    rw [hlist] at hlen ⊢
    rw [hmem _ (by omega) (by omega), hregion]
    exact word_setWords_self _ _ _ _ (by rwa [historyWords_length]) (by omega)
  all_goals rw [hhbw]; rfl

/-! ## REQUEST_RESTART's take (R113, R107) -/

section Request

variable {r : OrderRecord} {s : State}

theorem orderRequestRestart_badOperand (h1 : r.w1 ≠ 1#32) (h2 : r.w1 ≠ 2#32) :
    orderRequestRestart r s = (s, some (orderRefused .badOperand)) := by
  have hcause : restartCause r.w1 = none := (if_neg h1).trans (if_neg h2)
  simp only [orderRequestRestart, hcause]

theorem orderRequestRestart_wrongState (h : r.w1 = 1#32 ∨ r.w1 = 2#32) (hup : s.psq.state.up = false) :
    orderRequestRestart r s = (s, some (orderRefused .wrongState)) := by
  have hcause : ∃ c, restartCause r.w1 = some c := by
    rcases h with h | h <;> rw [h] <;> exact ⟨_, rfl⟩
  obtain ⟨c, hc⟩ := hcause
  simp only [orderRequestRestart, hc, hup, if_true]

/-- A host's restart recorded and its decision held (R108, R77). -/
def requested (c : Cause) (a : Action) (s : State) : State :=
  { s.decided c with psq := { s.psq with held := some a } }

/-- The cause and the action of an operand (R107). -/
theorem restart_operand {c : Cause} {a : Action}
    (h : r.w1 = 1#32 ∧ c = .hostWarm ∧ a = .warm ∨ r.w1 = 2#32 ∧ c = .hostCold ∧ a = .cold) :
    restartCause r.w1 = some c ∧ c.held = true ∧ c.kind = .requested ∧ ∀ s : State, s.actionFor c = a := by
  rcases h with ⟨h, rfl, rfl⟩ | ⟨h, rfl, rfl⟩ <;> rw [h] <;> exact ⟨rfl, rfl, rfl, fun _ => rfl⟩

theorem takesFailure_of_up {q : SeqState} (h : q.up = true) : q.takesFailure = true := by
  revert h
  cases q <;> decide

theorem orderRequestRestart_done {c : Cause} {a : Action} (hcause : restartCause r.w1 = some c) (hheld : c.held = true)
    (haction : s.actionFor c = a) (hup : s.psq.state.up = true) : orderRequestRestart r s =
    (requested c a s, some { outcome := .done, value := BitVec.ofNat 32 s.hbw.nextSeq, detail := BitVec.ofNat 32 a.code }) := by
  have hfail : s.fail c = requested c a s := by
    unfold State.fail
    simp only [takesFailure_of_up hup, hheld, if_true, haction]
    rfl
  simp only [orderRequestRestart, hcause, hup, hfail, haction]
  rfl

theorem requested_keeps (c : Cause) (a : Action) (s : State) :
    Keeps { psq := true, hbw := true, mem := true } s (requested c a s) :=
  ((decided_keeps c s).mono (by decide)).set_psq rfl _

theorem requested_mem (c : Cause) (a : Action) (s : State) : ∃ l, (requested c a s).mem = s.mem.setWords 192 (historyWords l) :=
  ⟨_, rfl⟩

theorem code_of_requestRestart {n : Nat} (h : OrderKind.ofCode n = some .requestRestart) : n = 9 := by
  unfold OrderKind.ofCode at h
  split at h <;> first | rfl | cases h

/-- The record of a host's restart, taken with its own order code as the last one (R109, R172). -/
theorem requested_record {c : Cause} {a : Action} {dt : Nat} (hkind : c.kind = .requested) (hcode : s.taken.record.code = 9) :
    (orderTaken (s.elapse dt)).newRecord c a s.psq.state (decide (s.exc.state = .attached)) =
      { s.failureRecord c .requested a with lastOrder := 9 } := by
  have hlast : (orderTaken (s.elapse dt)).exc.lastOrder = 9 := hcode
  simp only [State.newRecord, State.failureRecord, hkind, hlast]
  rfl

end Request

/-- REQUEST_RESTART carried out at its take: recorded, the decision held (R113, R108). -/
theorem restart_taken {dt : Nat} {r : OrderRecord} {s : State} {c : Cause} {a : Action} (hs : s.offers .requestRestart r)
    (hca : r.w1 = 1#32 ∧ c = .hostWarm ∧ a = .warm ∨ r.w1 = 2#32 ∧ c = .hostCold ∧ a = .cold) (hup : s.psq.state.up = true) :
    ∃ t, exec (.requestRestart dt .carryOut) s = .next t
      ∧ t.psq = { s.psq with held := some a }
      ∧ FailureTaken { s.failureRecord c .requested a with lastOrder := 9 } s t
      ∧ t.exc = s.takenWith r (some
        { outcome := .done, value := BitVec.ofNat 32 s.hbw.nextSeq, detail := BitVec.ofNat 32 a.code })
      ∧ Unchanged [.clock, .psq, .hbw, .exc, .window] s t ∧ BytesKept [(13, 14), supervisionSpan, historySpan] s t
      ∧ MirrorFollows s t := by
  obtain ⟨hcause, hheld, hkind, haction⟩ := restart_operand hca
  have hp : (orderTaken (s.elapse dt)).perform .requestRestart r = _ :=
    orderRequestRestart_done (s := orderTaken (s.elapse dt)) hcause hheld (haction _) hup
  have kp := requested_keeps c a (orderTaken (s.elapse dt))
  obtain ⟨l, hl⟩ := requested_mem c a (orderTaken (s.elapse dt))
  have hl : (requested c a (orderTaken (s.elapse dt))).mem = s.mem.setWords 192 (historyWords l) := hl
  have hcode : s.taken.record.code = 9 := by
    rw [offers_record hs]
    exact code_of_requestRestart (offers_code hs)
  refine ⟨_, exec_took hs hp kp (.inl rfl), took_psq.trans rfl, ?_, took_exc, took_unchanged kp,
    took_bytesKept kp (fun b hb => ?_) (by simp) (by simp), took_mirror fun w _ hw => ?_⟩
  · rw [← requested_record (a := a) (dt := dt) hkind hcode]
    refine failureTaken_of (s := orderTaken (s.elapse dt)) (u := (orderTaken (s.elapse dt)).decided c) ?_ took_hbw fun w h1 _ => ?_
    · rw [State.decided, haction]
      rfl
    · exact (publish_word_high h1).trans rfl
  · rw [hl]
    refine byte_setWords_frame _ _ _ _ ?_
    rw [historyWords_length]
    exact hb historySpan (by simp)
  · rw [hl]
    exact word_setWords_frame _ _ _ _ (.inl hw)

end Sys2Proof.FailuresTaken
end

section
/-! PROOFS. Reports in a row (O41): what they leave depends on RPU, the uptime and the exchange alone, and on the window only where
RPU has a queue; without one they join the holding list (R182 to R185). -/

namespace Sys2Proof.ReportsInARow

open Sys2Proof Sys2Proof.Machine Sys2Proof.Laws Sys2Proof.ExchangeWatch Sys2Proof.MirrorShown

/-- Two states that hand-overs of reports cannot tell apart. -/
structure Alike (x y : State) : Prop where
  rpu : y.rpu = x.rpu
  uptime : y.uptime = x.uptime
  state : y.exc.state = x.exc.state
  enable : y.exc.enable = x.exc.enable
  mem : x.rpu.view ≠ none → y.mem = x.mem

theorem Alike.trans {x y z : State} (h : Alike x y) (k : Alike y z) : Alike x z :=
  ⟨k.rpu.trans h.rpu, k.uptime.trans h.uptime, k.state.trans h.state, k.enable.trans h.enable,
    fun hv => (k.mem (by rwa [h.rpu])).trans (h.mem hv)⟩

section Creation

variable {x y : State}

theorem Alike.queueRoom (h : Alike x y) : y.queueRoom = x.queueRoom := by
  unfold State.queueRoom
  rw [h.rpu]
  cases hv : x.rpu.view with
  | none => rfl
  | some q =>
    have hread : y.reportRead = x.reportRead := by simp only [State.reportRead, State.word, h.mem (by simp [hv])]
    rw [hread]

theorem view_of_queueRoom (h : x.queueRoom = true) : x.rpu.view ≠ none := by
  obtain ⟨q, hv, -⟩ := queueRoom_iff.1 h
  simp [hv]

theorem Alike.numbered (h : Alike x y) (b : ReportBody) : y.numbered b = x.numbered b := by
  simp only [State.numbered, h.uptime, h.rpu]

/-- The same change of RPU's record, its view kept. -/
theorem Alike.set_rpu (h : Alike x y) {u v : ReportUnit} (huv : v = u) (hview : u.view = x.rpu.view) :
    Alike { x with rpu := u } { y with rpu := v } :=
  ⟨huv, h.uptime, h.state, h.enable, fun hv => h.mem (by rwa [← hview])⟩

theorem Alike.writeReport (h : Alike x y) (hv : x.rpu.view ≠ none) (r : Report) : Alike (x.writeReport r) (y.writeReport r) where
  rpu := by rw [writeReport_rpu, writeReport_rpu, h.rpu, h.state, h.enable]
  uptime := by rw [(writeReport_keeps r x).uptime, (writeReport_keeps r y).uptime, h.uptime]
  state := by rw [(writeReport_keeps r x).exc rfl, (writeReport_keeps r y).exc rfl, h.state]
  enable := by rw [(writeReport_keeps r x).exc rfl, (writeReport_keeps r y).exc rfl, h.enable]
  mem _ := by rw [writeReport_mem, writeReport_mem, h.mem hv, State.reportSlot, h.rpu]; rfl

theorem Alike.holdReport (h : Alike x y) (r : Report) : Alike (x.holdReport r) (y.holdReport r) :=
  h.set_rpu (by rw [h.rpu]) rfl

theorem Alike.counted (h : Alike x y) : Alike (counted x) (counted y) := h.set_rpu (by rw [h.rpu]) rfl

theorem Alike.drainHeld (h : Alike x y) (l : List Report) : Alike (State.drainHeld l x) (State.drainHeld l y) := by
  induction l generalizing x y with
  | nil => exact h.set_rpu (by rw [h.rpu]) rfl
  | cons r l ih =>
    unfold State.drainHeld
    rw [h.queueRoom]
    split
    · rename_i hroom
      exact ih (h.writeReport (view_of_queueRoom hroom) r)
    · exact h.set_rpu (by rw [h.rpu]) rfl

theorem Alike.heldDrained (h : Alike x y) : Alike (heldDrained x) (heldDrained y) := by
  unfold ExchangeWatch.heldDrained
  rw [h.rpu]
  split
  · exact h.drainHeld _
  · exact h

theorem Alike.writeOverflow (h : Alike x y) (hv : x.rpu.view ≠ none) : Alike x.writeOverflow y.writeOverflow := by
  have hset : Alike { x with rpu := { x.rpu with created := x.rpu.created + 1, discards := 0 } }
      { y with rpu := { y.rpu with created := y.rpu.created + 1, discards := 0 } } := h.set_rpu (by rw [h.rpu]) rfl
  simp only [State.writeOverflow, h.uptime, h.rpu] at hset ⊢
  exact hset.writeReport hv _

theorem Alike.drain (h : Alike x y) : Alike x.drain y.drain := by
  rw [drain_eq, drain_eq, h.heldDrained.rpu, h.heldDrained.queueRoom]
  split
  · rename_i hd
    simp only [Bool.and_eq_true] at hd
    exact h.heldDrained.writeOverflow (view_of_queueRoom hd.2)
  · exact h.heldDrained

theorem Alike.createReport (h : Alike x y) (b : ReportBody) : Alike (x.createReport b) (y.createReport b) := by
  rw [createReport_eq, createReport_eq, h.drain.rpu, h.drain.queueRoom, h.drain.numbered]
  split
  · rename_i hd
    simp only [Bool.and_eq_true] at hd
    exact h.drain.counted.writeReport (view_of_queueRoom hd.2) _
  · exact h.drain.counted.holdReport _

theorem Alike.createReports (h : Alike x y) (bs : List ReportBody) : Alike (x.createReports bs) (y.createReports bs) := by
  unfold State.createReports
  induction bs generalizing x y with
  | nil => exact h
  | cons b bs ih => exact ih (h.createReport b)

end Creation

/-! ## Reports held -/

/-- A report created with the view detached joins the list (R184, R185). -/
theorem createReport_held {s : State} (b : ReportBody) (hv : s.rpu.view = none) :
    (s.createReport b).rpu = s.rpu.hold [s.reportOf b] := by
  rw [createReport_no_room b (queueRoom_false_iff.2 fun q hq => by rw [hv] at hq; cases hq)]
  rfl

/-- Reports numbered from a number on. -/
def numberedFrom (s : State) (n : Word) (k : Nat) (bs : List ReportBody) : List Report :=
  (bs.zipIdx k).map fun p => { s.reportOf p.1 with number := n + BitVec.ofNat 32 (p.2 + 1) }

theorem createReports_held_from {s : State} {n : Word} {k : Nat} (bs : List ReportBody) (hv : s.rpu.view = none)
    (hn : s.rpu.created = n + BitVec.ofNat 32 k) : (s.createReports bs).rpu = s.rpu.hold (numberedFrom s n k bs) := by
  induction bs generalizing s k with
  | nil => rfl
  | cons b bs ih =>
    have hrpu := createReport_held b hv
    have hreported := createReport_reported b s
    have hsucc : n + BitVec.ofNat 32 k + 1 = n + BitVec.ofNat 32 (k + 1) := by
      rw [BitVec.add_assoc, BitVec.ofNat_add]
      rfl
    have hrest : numberedFrom (s.createReport b) n (k + 1) bs = numberedFrom s n (k + 1) bs := by
      simp only [numberedFrom, State.reportOf, hreported.keeps.uptime]
    have hfirst : { s.reportOf b with number := n + BitVec.ofNat 32 (k + 1) } = s.reportOf b := by
      rw [← hsucc, ← hn]
      rfl
    have htail := ih (s := s.createReport b) (k := k + 1) (hreported.view.trans hv)
      (by rw [hrpu, ← hsucc, ← hn]; rfl)
    calc (s.createReports (b :: bs)).rpu = ((s.createReport b).createReports bs).rpu := rfl
      _ = (s.rpu.hold [s.reportOf b]).hold (numberedFrom s n (k + 1) bs) := by rw [htail, hrpu, hrest]
      _ = s.rpu.hold (numberedFrom s n k (b :: bs)) := by
        rw [numberedFrom, numberedFrom, List.zipIdx_cons, List.map_cons, hfirst]
        rfl

theorem createReports_held {s : State} (bs : List ReportBody) (hv : s.rpu.view = none) :
    (s.createReports bs).rpu = s.rpu.hold (s.reportsOf bs) :=
  createReports_held_from (n := s.rpu.created) (k := 0) bs hv (by simp)

end Sys2Proof.ReportsInARow
end

section
/-! PROOFS. The quiet releases at an entry into STANDBY or HOLDOFF (O41; R139, R140): each CHATTER key quiet for long enough is
released at its position in turn, and as a released key reads UP, a chord that one of them belongs to is not held. -/

namespace Sys2Proof.QuietReleases

open Sys2Proof Sys2Proof.Machine Sys2Proof.Laws Sys2Proof.ExchangeWatch Sys2Proof.MirrorShown Sys2Proof.ReportsInARow

/-- A key whose mask is released (R139). -/
def unmasked (k : Key) : Key := { k with mask := .none, transitions := 0 }

/-- The reports of the positions of a list whose mask is due to be released. -/
def dueReports (l : List Position) (s : State) : List ReportBody :=
  (l.filter fun p => s.quietDue p).map fun p => s.keyBody .keyUnmasked p 1

/-- The chord after releases: a member released, which reads UP, ends a hold; FIRED stays (R140). -/
def chordAfter (released : Prop) [Decidable released] (k : Keypad) : ChordState × Timer :=
  if k.chord ≠ .fired ∧ released then (.idle, none) else (k.chord, k.chordTimer)

theorem chordAfter_none {released : Prop} [Decidable released] {k : Keypad} (h : ¬ released) :
    chordAfter released k = (k.chord, k.chordTimer) := if_neg fun hr => h hr.2

theorem chordAfter_fired {released : Prop} [Decidable released] {k : Keypad} (h : k.chord = .fired) :
    chordAfter released k = (k.chord, k.chordTimer) := if_neg fun hr => hr.1 h

theorem chordAfter_ended {released : Prop} [Decidable released] {k : Keypad} (h : k.chord ≠ .fired) (hr : released) :
    chordAfter released k = (.idle, none) := if_pos ⟨h, hr⟩

theorem chordAfter_not_fired {released : Prop} [Decidable released] {k : Keypad} (h : k.chord ≠ .fired) :
    (chordAfter released k).1 ≠ .fired := by
  unfold chordAfter
  split
  · decide
  · exact h

theorem chordAfter_congr {p q : Prop} [Decidable p] [Decidable q] {k : Keypad} (h : p ↔ q) : chordAfter p k = chordAfter q k := by
  simp only [chordAfter, h]

/-- The positions of a list, quiet releases taken at each in turn, led from `s` to `t`. -/
structure Quieted (l : List Position) (s t : State) : Prop where
  keeps : Keeps { kps := true, rpu := true, mem := true } s t
  reports : Alike (s.createReports (dueReports l s)) t
  bytes : ∀ a, a < 4 * s.queueSpan.1 ∨ 4 * s.queueSpan.2 ≤ a → t.mem.byte a = s.mem.byte a
  kps : t.kps = { s.kps with
    keys := t.kps.keys, chord := t.kps.chord, chordTimer := t.kps.chordTimer
    reports := s.kps.reports + BitVec.ofNat 32 (dueReports l s).length }
  key : ∀ p, t.key p = if p ∈ l ∧ s.quietDue p = true then unmasked (s.key p) else s.key p
  chord : (t.kps.chord, t.kps.chordTimer) = chordAfter (∃ p ∈ l, s.quietDue p = true ∧ s.member p = true) s.kps

theorem Quieted.view {l : List Position} {s t : State} (h : Quieted l s t) : t.rpu.view = s.rpu.view := by
  rw [h.reports.rpu, (createReports_reported _ s).view]

section One

variable {p : Position} {s : State}

theorem key_setKey (q : Position) (k : Key) : (s.setKey p k).key q = if p = q then k else s.key q := by
  simp only [State.key, setKey_kps, Fin.getElem_fin, Vector.getElem_set, Fin.val_inj]

/-- The release of a key that is due, before the chord is examined. -/
def releasedKey (p : Position) (s : State) : State := (s.setKey p (unmasked (s.key p))).reportKey .keyUnmasked p 1

theorem quietDue_iff : s.quietDue p = true ↔
    (s.entry p).used = true ∧ (s.key p).mask = .chatter ∧ (s.key p).deb = false ∧ s.reached (s.key p).quiet s.quietUs = true := by
  simp [State.quietDue, and_assoc]

theorem quietExpiry_due (h : s.quietDue p = true) : s.quietExpiry p = (releasedKey p s).chordTouched p := by
  have hmask : (s.key p).mask ≠ .none := by
    rw [(quietDue_iff.1 h).2.1]
    decide
  rw [State.quietExpiry, guarded_true h, State.unmaskKey, if_neg hmask]
  rfl

theorem quietExpiry_idle (h : s.quietDue p = false) : s.quietExpiry p = s := guarded_false h

/-- A released member reads UP: the chord condition fails (R140). -/
theorem chordSetChanged_up (hm : s.member p = true) (hmask : (s.key p).mask = .none) (hdeb : (s.key p).deb = false) :
    s.chordSetChanged = { s with kps := { s.kps with
      chord := (chordAfter True s.kps).1, chordTimer := (chordAfter True s.kps).2 } } := by
  have hcond : s.chordCondition = false := by
    have hall : ((List.finRange 48).all fun q => !s.qualifies q || (s.key q).deb) = false := by
      refine List.all_eq_false.2 ⟨p, List.mem_finRange p, ?_⟩
      simp [State.qualifies, hm, hmask, hdeb]
    rw [State.chordCondition, hall, Bool.and_false]
  unfold State.chordSetChanged chordAfter
  split
  · rename_i hf
    simp only [ne_eq, hf, not_true, false_and, if_false]
    rw [← hf]
  · rename_i hf
    simp [State.chordFromIdle, hcond, hf]
  · rename_i hf
    simp [State.chordFromIdle, hcond, hf]

theorem releasedKey_keeps : Keeps { kps := true, rpu := true, mem := true } s (releasedKey p s) :=
  ((setKey_keeps p _ s).mono (by decide)).trans (reportKey_keeps _ p 1 _)

/-- The report is created in the state with the mask already released. -/
theorem releasedKey_created : ∃ u : State, Reported (s.setKey p (unmasked (s.key p))) u
    ∧ u = (s.setKey p (unmasked (s.key p))).createReport (s.keyBody .keyUnmasked p 1)
    ∧ releasedKey p s = { u with kps := { u.kps with reports := u.kps.reports + 1 } } :=
  ⟨_, createReport_reported _ _, rfl, rfl⟩

theorem releasedKey_kps : (releasedKey p s).kps =
    { (s.setKey p (unmasked (s.key p))).kps with reports := s.kps.reports + 1 } := by
  obtain ⟨u, hu, -, he⟩ := releasedKey_created (p := p) (s := s)
  rw [he]
  dsimp only
  rw [hu.keeps.kps rfl]
  rfl

theorem releasedKey_key (q : Position) : (releasedKey p s).key q = if p = q then unmasked (s.key p) else s.key q := by
  rw [← key_setKey]
  simp only [State.key, releasedKey_kps]

/-- One position's release. -/
theorem quieted_one : Quieted [p] s (s.quietExpiry p) := by
  cases hdue : s.quietDue p with
  | false =>
    rw [quietExpiry_idle hdue]
    have hnone : dueReports [p] s = [] := by simp [dueReports, hdue]
    refine ⟨.refl _ s, ?_, fun _ _ => rfl, ?_, fun q => ?_, ?_⟩
    · rw [hnone]
      exact ⟨rfl, rfl, rfl, rfl, fun _ => rfl⟩
    · rw [hnone]
      simp
    · refine (if_neg ?_).symm
      rintro ⟨hq, hd⟩
      rw [List.mem_singleton.1 hq, hdue] at hd
      cases hd
    · refine (if_neg ?_).symm
      rintro ⟨-, q, hq, hd, -⟩
      rw [List.mem_singleton.1 hq, hdue] at hd
      cases hd
  | true =>
    obtain ⟨-, hmask, hdeb, -⟩ := quietDue_iff.1 hdue
    have hreports : dueReports [p] s = [s.keyBody .keyUnmasked p 1] := by simp [dueReports, hdue]
    obtain ⟨u, hu, hcreate, he⟩ := releasedKey_created (p := p) (s := s)
    have kchord := chordTouched_keeps p (releasedKey p s)
    have hself : (releasedKey p s).key p = unmasked (s.key p) := (releasedKey_key p).trans (if_pos rfl)
    have hmember : (releasedKey p s).member p = s.member p := by
      simp only [State.member, State.entry, releasedKey_keeps.sst rfl]
    have hkps : ((releasedKey p s).chordTouched p).kps = { (releasedKey p s).kps with
        chord := (chordAfter (s.member p = true) s.kps).1, chordTimer := (chordAfter (s.member p = true) s.kps).2 } := by
      have hchord : chordAfter True (releasedKey p s).kps = chordAfter True s.kps := by rw [releasedKey_kps]; rfl
      unfold State.chordTouched
      rw [hmember]
      split
      · rename_i hm
        rw [chordSetChanged_up (p := p) (hmember.trans hm) (by rw [hself]; rfl) (by rw [hself]; exact hdeb), hchord]
        simp only [hm]
      · rename_i hm
        rw [chordAfter_none hm, releasedKey_kps]
        rfl
    rw [quietExpiry_due hdue]
    refine ⟨releasedKey_keeps.trans (kchord.mono (by decide)), ?_, fun a ha => ?_, ?_, fun q => ?_, ?_⟩
    · have halike : Alike s (s.setKey p (unmasked (s.key p))) := ⟨rfl, rfl, rfl, rfl, fun _ => rfl⟩
      have hdone := halike.createReport (s.keyBody .keyUnmasked p 1)
      rw [← hcreate] at hdone
      rw [hreports]
      refine ⟨?_, ?_, ?_, ?_, fun hv => ?_⟩
      · rw [kchord.rpu rfl, he]; exact hdone.rpu
      · rw [kchord.uptime, he]; exact hdone.uptime
      · rw [kchord.exc rfl, he]; exact hdone.state
      · rw [kchord.exc rfl, he]; exact hdone.enable
      · rw [kchord.mem rfl, he]; exact hdone.mem hv
    · rw [kchord.mem rfl, he]
      exact hu.bytes a ha
    · rw [hkps, releasedKey_kps, hreports]
      rfl
    · rw [State.key, hkps]
      refine (releasedKey_key q).trans ?_
      by_cases hq : p = q
      · subst hq
        simp [hdue]
      · simp [hq, Ne.symm hq]
    · rw [hkps]
      simp [hdue]

end One

/-! ## Position after position -/

theorem Quieted.entry {l : List Position} {s t : State} (h : Quieted l s t) (q : Position) : t.entry q = s.entry q := by
  simp only [State.entry, h.keeps.sst rfl]

theorem Quieted.member {l : List Position} {s t : State} (h : Quieted l s t) (q : Position) : t.member q = s.member q := by
  simp only [State.member, h.entry]

/-- A position not yet reached is due after the releases as it was before them. -/
theorem Quieted.quietDue {l : List Position} {s t : State} (h : Quieted l s t) {q : Position} (hq : q ∉ l) :
    t.quietDue q = s.quietDue q := by
  have hkey : t.key q = s.key q := (h.key q).trans (if_neg fun hl => hq hl.1)
  have hquiet : t.quietUs = s.quietUs := by
    rw [State.quietUs, State.settingNat, State.setting, h.keeps.sst rfl, h.keeps.psq rfl]
    rfl
  have hreached : t.reached = s.reached := by
    funext x us
    cases x with
    | none => rfl
    | some t0 => simp only [State.reached, h.keeps.clock]
  rw [State.quietDue, h.entry, hkey, hquiet, hreached]
  rfl

theorem dueReports_append (l m : List Position) (s : State) : dueReports (l ++ m) s = dueReports l s ++ dueReports m s := by
  simp [dueReports]

theorem Quieted.dueReports {l m : List Position} {s t : State} (h : Quieted l s t) (hm : ∀ q ∈ m, q ∉ l) :
    dueReports m t = dueReports m s := by
  have hfilter : (m.filter fun q => t.quietDue q) = m.filter fun q => s.quietDue q :=
    List.filter_congr fun q hq => h.quietDue (hm q hq)
  simp only [QuietReleases.dueReports, hfilter, State.keyBody, h.entry]

theorem createReports_append (l m : List ReportBody) (s : State) :
    s.createReports (l ++ m) = (s.createReports l).createReports m := List.foldl_append

theorem Quieted.append {l m : List Position} {s t u : State} (h : Quieted l s t) (k : Quieted m t u) (hm : ∀ q ∈ m, q ∉ l) :
    Quieted (l ++ m) s u := by
  have hdue := h.dueReports hm
  have hfirst (q : Position) (hq : q ∈ m) : t.key q = s.key q := (h.key q).trans (if_neg fun hl => hm q hq hl.1)
  have hreports : s.kps.reports + BitVec.ofNat 32 (QuietReleases.dueReports l s).length
      + BitVec.ofNat 32 (QuietReleases.dueReports m s).length =
      s.kps.reports + BitVec.ofNat 32 (QuietReleases.dueReports (l ++ m) s).length := by
    rw [dueReports_append, List.length_append, BitVec.ofNat_add, BitVec.add_assoc]
  refine ⟨h.keeps.trans k.keeps, ?_, fun a ha => ?_, ?_, fun q => ?_, ?_⟩
  · rw [dueReports_append, createReports_append]
    have halike := h.reports.createReports (QuietReleases.dueReports m s)
    have hlast := k.reports
    rw [hdue] at hlast
    exact halike.trans hlast
  · exact (k.bytes a (by rw [queueSpan_eq h.view]; exact ha)).trans (h.bytes a ha)
  · rw [k.kps, hdue, h.kps, hreports]
  · by_cases hq : q ∈ m
    · rw [k.key q, h.quietDue (hm q hq), hfirst q hq]
      simp [hq]
    · rw [k.key q, if_neg fun hl => hq hl.1, h.key q]
      simp [hq]
  · have hchord : t.kps.chord = (chordAfter (∃ p ∈ l, s.quietDue p = true ∧ s.member p = true) s.kps).1 := by rw [← h.chord]
    rw [k.chord]
    by_cases hf : s.kps.chord = .fired
    · rw [chordAfter_fired hf] at hchord ⊢
      rw [chordAfter_fired (hchord.trans hf), h.chord, chordAfter_fired hf]
    by_cases hin : ∃ p ∈ m, s.quietDue p = true ∧ s.member p = true
    · obtain ⟨p, hp, hd, hmem⟩ := hin
      have hf' : t.kps.chord ≠ .fired := hchord ▸ chordAfter_not_fired hf
      rw [chordAfter_ended hf ⟨p, List.mem_append_right l hp, hd, hmem⟩,
        chordAfter_ended hf' ⟨p, hp, (h.quietDue (hm p hp)).trans hd, (h.member p).trans hmem⟩]
    · have hnone : ¬ ∃ p ∈ m, t.quietDue p = true ∧ t.member p = true := by
        rintro ⟨p, hp, hd, hmem⟩
        exact hin ⟨p, hp, (h.quietDue (hm p hp)).symm.trans hd, (h.member p).symm.trans hmem⟩
      rw [chordAfter_none hnone, h.chord]
      refine chordAfter_congr ⟨fun ⟨p, hp, hd⟩ => ⟨p, List.mem_append_left m hp, hd⟩, fun ⟨p, hp, hd⟩ => ?_⟩
      rcases List.mem_append.1 hp with hp | hp
      · exact ⟨p, hp, hd⟩
      · exact absurd ⟨p, hp, hd⟩ hin

theorem quieted_list {l : List Position} (hl : l.Nodup) (s : State) : Quieted l s (l.foldl (fun s p => s.quietExpiry p) s) := by
  induction l generalizing s with
  | nil =>
    refine ⟨.refl _ s, ⟨rfl, rfl, rfl, rfl, fun _ => rfl⟩, fun _ _ => rfl, ?_, fun _ => rfl, (chordAfter_none ?_).symm⟩
    · simp [QuietReleases.dueReports]
    · simp
  | cons p l ih =>
    obtain ⟨hp, hl⟩ := List.nodup_cons.1 hl
    refine Quieted.append (l := [p]) quieted_one (ih hl _) fun q hq hqp => ?_
    rw [List.mem_singleton.1 hqp] at hq
    exact hp hq

theorem quieted_all (s : State) : Quieted (List.finRange 48) s (s.eachPosition State.quietExpiry) :=
  quieted_list (List.nodup_finRange 48) s

end Sys2Proof.QuietReleases
end

section
/-! PROOFS. The computer taken down (O41): a decision carried out on a computer that is up (R77, R78), with the main-off event
(R23), the exchange's detach and KPS's answer. -/

namespace Sys2Proof.DecisionsCarriedOut

open Sys2Proof Sys2Proof.Machine Sys2Proof.Laws Sys2Proof.ExchangeWatch Sys2Proof.MirrorShown Sys2Proof.ReportsInARow
  Sys2Proof.QuietReleases

/-! ## Taking the computer down -/

section TakeDown

variable {s : State}

theorem takeDown_exc (b : Bool) : (s.takeDown b).exc = s.detachedForRestart := by
  have hdetach : (s.detach .hostRestart).noticeClear.exc = s.detachedForRestart := by
    unfold State.detach State.detachedForRestart
    split
    · rfl
    · rename_i h
      have hstate : s.exc.state = .detached := by
        cases hs : s.exc.state with
        | detached => rfl
        | attached => exact absurd hs h
      simp only [State.noticeClear, setEnable_exc, setPending_exc, hstate]
  cases b <;> exact hdetach

theorem takeDown_rpu (b : Bool) : (s.takeDown b).rpu = s.takenDown.rpu := by
  have hattn : attnOf 0#4 0#4 = false := by decide
  have hdetach : (s.detach .hostRestart).noticeClear.rpu = s.takenDown.rpu := by
    unfold State.detach State.takenDown State.noticeClear
    split
    · simp only [setEnable_rpu, setPending_rpu, hattn]
    · simp only [setEnable_rpu, setPending_rpu, hattn]
  cases b <;> exact hdetach

theorem takeDown_psq (b : Bool) :
    (s.takeDown b).psq = { s.psq with hostReset := true, mainEn := if b then false else s.psq.mainEn } := by
  have hdetach : (s.detach .hostRestart).noticeClear.psq = s.psq :=
    ((noticeClear_keeps _).psq rfl).trans ((detach_keeps _ s).psq rfl)
  cases b
  · show { (s.detach .hostRestart).noticeClear.psq with hostReset := true } = _
    rw [hdetach]
    rfl
  · show { (s.detach .hostRestart).noticeClear.psq with hostReset := true, mainEn := false } = _
    rw [hdetach]
    rfl

/-- Power removed is the main-off event (R79), and nothing else of ZC's. -/
theorem mainOffTaken_of {t : State} (h : t.zc = s.mainOff.zc) : MainOffTaken s t := by
  refine ⟨?_, fun n => ?_⟩
  · rw [h]
    rfl
  · have hzone : t.zc.zones[n] = (s.zc.zones[n]).mainOff := by
      rw [h]
      simp [State.mainOff, SupplyBudget.onEach_eq_map]
    rw [hzone]
    generalize s.zc.zones[n] = z
    cases z with
    | mk state => cases state <;> rfl

end TakeDown

/-! ## A decision carried out -/

/-- What a decision carried out on a computer that was up leaves (R77, R78, R98). -/
structure CarriedDown (a : Action) (s t : State) : Prop where
  keeps : Keeps { psq := true, zc := true, hbw := true, exc := true, rpu := true } s t
  exc : t.exc = s.detachedForRestart
  rpu : t.rpu = s.takenDown.rpu
  hbw : t.hbw = s.watchStopped
  held : t.psq.held = s.psq.held
  hostReset : t.psq.hostReset = true
  delay : t.psq.delay = .stopped
  decision : DecisionCarriedOut a s t

section Down

variable {s : State}

theorem enter_psq (st : SeqState) : (s.enter st).psq = { s.psq.timersOff with state := st, stamp := s.uptime } := by
  cases st <;> rfl

/-- The entries of the table of R77 on a computer that is up, by what they set in PSQ at last. -/
theorem carriedDown_of {a : Action} {st : SeqState} {b : Bool} {t : State}
    (ht : t = { (s.takeDown b).enter st with psq := t.psq }) (hoff : ∀ u : State, (u.enter st).hbw = u.watchStopped)
    (held : t.psq.held = s.psq.held) (hreset : t.psq.hostReset = true) (hdelay : t.psq.delay = .stopped)
    (hdecision : DecisionCarriedOut a s t) : CarriedDown a s t := by
  have kdown := takeDown_keeps b s
  have kenter := enter_keeps st (s.takeDown b)
  have kt : Keeps { psq := true, zc := true, hbw := true, exc := true, rpu := true } s
      { (s.takeDown b).enter st with psq := t.psq } :=
    ((kdown.mono (by decide)).trans (kenter.mono (by decide))).set_psq rfl t.psq
  have hexc := (kenter.exc rfl).trans (takeDown_exc b)
  have hrpu := (kenter.rpu rfl).trans (takeDown_rpu b)
  have hhbw : ((s.takeDown b).enter st).hbw = s.watchStopped := by
    rw [hoff, State.watchStopped, kdown.hbw rfl]
    rfl
  exact ⟨ht ▸ kt, (congrArg State.exc ht).trans hexc, (congrArg State.rpu ht).trans hrpu, (congrArg State.hbw ht).trans hhbw, held,
    hreset, hdelay, hdecision⟩

theorem enterRestarting_psq : s.enterRestarting.psq =
    { s.psq.timersOff with hostReset := true, state := .restarting, stamp := s.uptime, pulse := some s.clock } := by
  show { ((s.takeDown false).enter .restarting).psq with pulse := some s.clock } = _
  rw [enter_psq, takeDown_psq, (takeDown_keeps false s).uptime]
  rfl

theorem enterCycling_psq : s.enterCycling.psq =
    { s.psq.timersOff with
      hostReset := true, mainEn := false, state := .cycling, stamp := s.uptime
      offTimer := some { start := s.clock, length := (s.setting 71).toNat * 1000000 } } := by
  show { ((s.takeDown true).enter .cycling).psq with offTimer := some (s.countdown (secondsUs (s.settingNat 71))) } = _
  rw [enter_psq, takeDown_psq, (takeDown_keeps true s).uptime]
  rfl

theorem enterHoldoff_psq : (s.enterHoldoff .escalation).psq =
    { s.psq.timersOff with
      hostReset := true, mainEn := false, state := .holdoff, stamp := s.uptime, reason := .escalation, retry := some s.clock } := by
  show { ((s.takeDown true).enter .holdoff).psq with reason := .escalation, retry := some s.clock } = _
  rw [enter_psq, takeDown_psq, (takeDown_keeps true s).uptime]
  rfl

theorem enterRestarting_down : CarriedDown .warm s s.enterRestarting := by
  have hpsq := enterRestarting_psq (s := s)
  have k := enterRestarting_keeps s
  have hzc : s.enterRestarting.zc = s.zc := by
    have hdetach := (noticeClear_keeps (s.detach .hostRestart)).zc rfl
    exact ((enter_keeps .restarting (s.takeDown false)).zc rfl).trans (hdetach.trans ((detach_keeps _ s).zc rfl))
  refine carriedDown_of (st := .restarting) (b := false) rfl (fun _ => rfl) ?_ ?_ ?_ ⟨?_, ?_, ?_, ?_, hzc⟩
  all_goals rw [hpsq]
  case refine_6 => rw [k.clock]
  all_goals rfl

theorem enterCycling_down : CarriedDown .cold s s.enterCycling := by
  have hpsq := enterCycling_psq (s := s)
  have k := enterCycling_keeps s
  have hzc : s.enterCycling.zc = s.mainOff.zc :=
    ((enter_keeps .cycling (s.takeDown true)).zc rfl).trans (SupplyBudget.takeDown_zc s)
  refine carriedDown_of (st := .cycling) (b := true) rfl (fun _ => rfl) ?_ ?_ ?_ ⟨?_, ?_, ?_, ?_, mainOffTaken_of hzc⟩
  all_goals rw [hpsq]
  case refine_7 => rw [k.clock]
  all_goals rfl

theorem enterHoldoff_down : CarriedDown .holdoff s (s.enterHoldoff .escalation) := by
  have hpsq := enterHoldoff_psq (s := s)
  have k := enterHoldoff_keeps .escalation s
  refine carriedDown_of (st := .holdoff) (b := true) rfl (fun _ => rfl) ?_ ?_ ?_
    ⟨?_, ?_, ?_, ?_, ?_, mainOffTaken_of (SupplyBudget.enterHoldoff_zc s .escalation)⟩
  all_goals rw [hpsq]
  case refine_8 => rw [k.clock]
  all_goals rfl

theorem up_cases {q : SeqState} (h : q.up = true) : q = .booting ∨ q = .running ∨ q = .warned := by
  revert h
  cases q <;> decide

/-- A decision on a computer that is up (R77). -/
theorem carryOut_down (a : Action) (hup : s.psq.state.up = true) : CarriedDown a s (s.carryOut a) := by
  have hstate := up_cases hup
  cases a with
  | warm =>
    have hcarry : s.carryOut .warm = s.enterRestarting := by
      rcases hstate with h | h | h <;> simp only [State.carryOut, h]
    exact hcarry ▸ enterRestarting_down
  | cold =>
    have hcarry : s.carryOut .cold = s.enterCycling := by
      rcases hstate with h | h | h <;> simp only [State.carryOut, h]
    exact hcarry ▸ enterCycling_down
  | holdoff =>
    have hcarry : s.carryOut .holdoff = s.enterHoldoff .escalation := by
      rcases hstate with h | h | h <;> simp only [State.carryOut, h]
    exact hcarry ▸ enterHoldoff_down

end Down

end Sys2Proof.DecisionsCarriedOut
end

section
/-! PROOFS. REQUEST_RESTART's completion (O41): the entry answered, the decision carried out, KPS's answer to it, and what the host
is shown (R113, R174, R77, R78, R139). -/

namespace Sys2Proof.RestartsAnswered

open Sys2Proof Sys2Proof.Machine Sys2Proof.Laws Sys2Proof.ExchangeWatch Sys2Proof.MirrorShown Sys2Proof.ReportsInARow
  Sys2Proof.QuietReleases Sys2Proof.DecisionsCarriedOut Sys2Proof.FailuresTaken

/-! ## The command -/

section Command

variable {s : State} {h : OrderInHand} {res : OrderResult} {a : Action}

theorem canTake_detached (hd : s.exc.state = .detached) : s.canTake = false := by
  simp [State.canTake, hd]

/-- A trigger in a DETACHED exchange takes nothing (R172). -/
theorem trigger_detached (hd : s.exc.state = .detached) (reach : IntakeReach) : s.trigger reach = s := by
  have hrun (n : Nat) : s.intakeRun n = s := by
    cases n with
    | zero => rfl
    | succ n => rw [State.intakeRun, canTake_detached hd, if_neg (by decide)]
  cases reach with
  | toTake => rw [State.trigger, canTake_detached hd, if_neg (by decide)]
  | toAnswer => exact hrun _

/-- The part once the order in hand is answered, or is to be answered nowhere (R174). -/
def answeredWith (h : OrderInHand) (res : OrderResult) (s : State) : State := if h.discard then s else s.writeOutcome h res

/-- The part once the held decision is carried out and the intake is IDLE (R174, R77). -/
def carriedWith (a : Action) (s : State) : State :=
  let c := State.carryOut a { s with psq := { s.psq with held := none } }
  { c with exc := { c.exc with inHand := none } }

theorem answeredWith_keeps : Keeps { exc := true, rpu := true, mem := true } s (answeredWith h res s) := by
  unfold answeredWith
  split
  · exact .refl _ s
  · exact writeOutcome_keeps h res s

theorem completeOrder_held (hh : s.exc.inHand = some h) (hres : h.result = some res) (ha : s.psq.held = some a)
    (hup : s.psq.state.up = true) : s.completeOrder = carriedWith a (answeredWith h res s) := by
  have k := answeredWith_keeps (s := s) (h := h) (res := res)
  have hheld : (answeredWith h res s).psq.held = some a := by rw [k.psq rfl, ha]
  have hcarry : (answeredWith h res s).carryOutHeld =
      State.carryOut a { answeredWith h res s with psq := { (answeredWith h res s).psq with held := none } } := by
    simp only [State.carryOutHeld, hheld]
  have hdelay (u : State) (hu : u.psq.delay = .stopped) : u.startDelay = u := by simp only [State.startDelay, hu]
  have hdown := carryOut_down (s := { answeredWith h res s with psq := { (answeredWith h res s).psq with held := none } }) a
    (by rw [← hup, ← k.psq rfl])
  unfold State.completeOrder
  simp only [hh, hres]
  rw [show (if h.discard = true then s else s.writeOutcome h res) = answeredWith h res s from rfl, hcarry,
    hdelay _ hdown.delay]
  rfl

theorem exec_complete {dt : Nat} {next : IntakeReach} (hr : s.resetting = none) (hh : s.exc.inHand = some h)
    (hres : h.result = some res) (hk : OrderKind.ofCode h.record.code = some .requestRestart) :
    exec (.requestRestart dt (.complete next)) s = .next ((State.act {} State.completeOrder (s.elapse dt)).trigger next) := by
  have hlive : exec (.requestRestart dt (.complete next)) s = .next ((s.elapse dt).completeKind .requestRestart next) := by
    have horder : s.order dt .requestRestart (.complete next) =
        .next ((s.elapse dt).completeKind .requestRestart next) := live_next hr
    exact horder
  have hkind : (s.elapse dt).inHandIs .requestRestart = true := by simp [State.inHandIs, hh, hk]
  have hknown : (s.elapse dt).resultKnown = true := by simp [State.resultKnown, hh, hres]
  rw [hlive, State.completeKind, if_pos hkind, State.completeAndTrigger, if_pos hknown]

end Command

/-! ## KPS's answer -/

section Keypad

variable {a : Action} {s f u : State}

/-- A decision is congruent in what it reads. -/
theorem decision_congr {s' t t' : State} (hmain : s'.psq.mainEn = s.psq.mainEn) (hup : s'.uptime = s.uptime) (hzc : s'.zc = s.zc)
    (hsst : s'.sst = s.sst) (hpsq : t'.psq = t.psq) (hclock : t'.clock = t.clock) (hzc' : t'.zc = t.zc)
    (h : DecisionCarriedOut a s t) : DecisionCarriedOut a s' t' := by
  cases a with
  | warm => simpa only [DecisionCarriedOut, hmain, hup, hzc, hpsq, hclock, hzc'] using h
  | cold =>
    have hset : s'.setting 71 = s.setting 71 := by rw [State.setting, hsst]; rfl
    simpa only [DecisionCarriedOut, MainOffTaken, hup, hzc, hset, hpsq, hclock, hzc'] using h
  | holdoff => simpa only [DecisionCarriedOut, MainOffTaken, hup, hzc, hpsq, hclock, hzc'] using h

/-- KPS answers the entry into HOLDOFF with the quiet releases, and no other decision (R139). -/
theorem keypadFollows_carried {old : SeqState} (hold : old.up = true) (hd : DecisionCarriedOut a s f) :
    a = .holdoff ∧ f.psq.state = .holdoff ∧ f.keypadFollows old = f.eachPosition State.quietExpiry
      ∨ a ≠ .holdoff ∧ f.keypadFollows old = f := by
  cases a with
  | warm =>
    have hstate : f.psq.state = .restarting := hd.1
    exact .inr ⟨by decide, keypadFollows_running (by rw [hstate]; rfl) (by rw [hstate]; intro h; cases h)⟩
  | cold =>
    have hstate : f.psq.state = .cycling := hd.1
    exact .inr ⟨by decide, keypadFollows_running (by rw [hstate]; rfl) (by rw [hstate]; intro h; cases h)⟩
  | holdoff =>
    have hstate : f.psq.state = .holdoff := hd.1
    have hne : f.psq.state ≠ old := by rw [hstate]; rintro rfl; cases hold
    have hpsq : (f.eachPosition State.quietExpiry).psq = f.psq := (quieted_all f).keeps.psq rfl
    refine .inl ⟨rfl, hstate, ?_⟩
    unfold State.keypadFollows
    have hparked : (f.psq.state.parked && decide (f.psq.state ≠ old)) = true := by simp [hne]; rw [hstate]; rfl
    simp only [hparked, if_true, hpsq]
    rw [hstate]
    rfl

/-- A position is due in HOLDOFF as R139's shorter quiet time says. -/
theorem quietDue_holdoff (hkps : f.kps = s.kps) (hsst : f.sst = s.sst) (hstate : f.psq.state = .holdoff) (p : Position) :
    f.quietDue p = s.quietBy f.clock p := by
  have hkey : f.key p = s.key p := by simp only [State.key, hkps]
  have hentry : f.entry p = s.entry p := by simp only [State.entry, hsst]
  have hus : f.quietUs = (s.setting 85).toNat * 100000 := by
    have hset : f.settingNat 85 = (s.setting 85).toNat := by rw [State.settingNat, State.setting, hsst]; rfl
    rw [State.quietUs, hstate, if_pos (by rfl), hset, secondsUs]
    omega
  have htime (x : Timer) (n : Nat) : f.reached x n = elapsedBy f.clock x n := by cases x <;> rfl
  rw [State.quietDue, State.quietBy, hkey, hentry, hus, htime]
  cases (s.key p).deb <;> simp

theorem dueReports_holdoff (hkps : f.kps = s.kps) (hsst : f.sst = s.sst) (hstate : f.psq.state = .holdoff) :
    dueReports (List.finRange 48) f = s.quietReports f.clock := by
  have hfilter : ((List.finRange 48).filter fun p => f.quietDue p) = (List.finRange 48).filter (s.quietBy f.clock) :=
    List.filter_congr fun p _ => quietDue_holdoff hkps hsst hstate p
  simp only [dueReports, State.quietReports, hfilter, State.keyBody, State.entry, hsst]

theorem deb_of_quietBy {now : Nat} {p : Position} (h : s.quietBy now p = true) : (s.key p).deb = false := by
  simp only [State.quietBy, Bool.and_eq_true, decide_eq_true_eq] at h
  obtain ⟨⟨-, -, hdeb⟩, -⟩ := h
  exact hdeb

/-- KPS after the quiet releases at the entry into HOLDOFF (R139, R140). -/
theorem keysQuieted_of {t : State} (hq : Quieted (List.finRange 48) f u) (hkps : f.kps = s.kps) (hsst : f.sst = s.sst)
    (hstate : f.psq.state = .holdoff) (hclock : t.clock = f.clock) (ht : t.kps = u.kps) (htsst : t.sst = s.sst) :
    KeysQuieted s t := by
  have hdue := quietDue_holdoff hkps hsst hstate
  have hkey (p : Position) : t.key p = if s.quietBy t.clock p = true then unmasked (s.key p) else s.key p := by
    have hu : t.key p = u.key p := by simp only [State.key, ht]
    have hf : f.key p = s.key p := by simp only [State.key, hkps]
    rw [hu, hq.key p, hdue, hclock, hf]
    simp
  have hmember (p : Position) : f.member p = true ↔ s.isMember p := by
    simp only [State.member, State.entry, hsst, Bool.and_eq_true]
    exact Iff.rfl
  have hreleased : (∃ p ∈ List.finRange 48, f.quietDue p = true ∧ f.member p = true) ↔
      ∃ p, s.quietBy t.clock p = true ∧ s.isMember p := by
    simp only [hdue, hmember, hclock, List.mem_finRange, true_and]
  refine ⟨hkey, ⟨fun h => ?_, fun hf hrel => ?_⟩, ?_⟩
  · have hsame : chordAfter (∃ p ∈ List.finRange 48, f.quietDue p = true ∧ f.member p = true) f.kps =
        (s.kps.chord, s.kps.chordTimer) := by
      rw [← hkps]
      rcases h with h | h
      · exact chordAfter_fired (by rw [hkps]; exact h)
      · exact chordAfter_none fun hx => h (hreleased.1 hx)
    have hchord := hq.chord.trans hsame
    rw [Prod.mk.injEq] at hchord
    rw [ht]
    exact hchord
  · have hup : ¬ t.chordHeld := by
      obtain ⟨p, hp, hm⟩ := hrel
      rintro ⟨-, hall⟩
      have hk : t.key p = unmasked (s.key p) := (hkey p).trans (if_pos hp)
      have hmt : t.isMember p := by simpa only [State.isMember, State.entry, htsst] using hm
      have hdown := hall p hmt (by rw [hk]; rfl)
      rw [hk] at hdown
      exact absurd ((deb_of_quietBy hp).symm.trans hdown) (by decide)
    rw [if_neg hup, ht, hq.chord]
    exact chordAfter_ended (by rwa [hkps]) (hreleased.2 hrel)
  · rw [ht, hclock, ← dueReports_holdoff hkps hsst hstate, ← hkps]
    exact hq.kps

end Keypad

/-! ## The completion as one effect -/

section Effect

variable {a : Action} {s x : State}

theorem takenDown_rpu_eq (s : State) : s.takenDown.rpu =
    { s.rpu with view := if s.exc.state = .attached then none else s.rpu.view, pending := 0#4, attn := false } := rfl

/-- What the decision leaves where the intake is IDLE again (R174). -/
theorem carriedWith_down (a : Action) (hup : x.psq.state.up = true) :
    CarriedDown a { x with psq := { x.psq with held := none } }
      (State.carryOut a { x with psq := { x.psq with held := none } }) := carryOut_down a hup

theorem carriedWith_keeps (a : Action) (x : State) :
    Keeps { psq := true, zc := true, hbw := true, exc := true, rpu := true } x (carriedWith a x) :=
  ((Keeps.refl _ x).set_psq (b := { psq := true, zc := true, hbw := true, exc := true, rpu := true }) rfl
    { x.psq with held := none }).trans ((carryOut_keeps a _).set_exc rfl _)

theorem carriedWith_exc (a : Action) (hup : x.psq.state.up = true) :
    (carriedWith a x).exc = { x.detachedForRestart with inHand := none } := by
  have h := (carriedWith_down a hup).exc
  rw [carriedWith]
  dsimp only
  rw [h]
  rfl

theorem carriedWith_rpu (a : Action) (hup : x.psq.state.up = true) : (carriedWith a x).rpu = x.takenDown.rpu :=
  (carriedWith_down a hup).rpu

theorem carriedWith_hbw (a : Action) (hup : x.psq.state.up = true) : (carriedWith a x).hbw = x.watchStopped :=
  (carriedWith_down a hup).hbw

theorem carriedWith_held (a : Action) (hup : x.psq.state.up = true) : (carriedWith a x).psq.held = none :=
  (carriedWith_down a hup).held

theorem carriedWith_hostReset (a : Action) (hup : x.psq.state.up = true) : (carriedWith a x).psq.hostReset = true :=
  (carriedWith_down a hup).hostReset

theorem carriedWith_decision (a : Action) (hup : x.psq.state.up = true) : DecisionCarriedOut a x (carriedWith a x) :=
  decision_congr rfl rfl rfl rfl rfl rfl rfl (carriedWith_down a hup).decision

/-- The computer taken down, whatever reports KPS gave after it (R78). -/
theorem takenDown_of {t : State} {bs : List ReportBody} (hexc : t.exc = { x.detachedForRestart with inHand := none })
    (hrpu : t.rpu = (s.takenDown.createReports bs).rpu) (hreset : t.psq.hostReset = true) :
    TakenDown s t := by
  have hdown : s.takenDown.exc.state ≠ .attached := by
    rw [show s.takenDown.exc.state = ExchangeState.detached from rfl]
    decide
  obtain ⟨hpending, hattn⟩ := createReports_notices (s := s.takenDown) hdown bs
  have hview := (createReports_reported bs s.takenDown).view
  refine ⟨by rw [hexc]; rfl, by rw [hexc]; rfl, by rw [hexc]; rfl, ?_, ?_, fun ha => ?_, hreset⟩
  · rw [hrpu, hpending]
    rfl
  · rw [hrpu, hattn]
    rfl
  · rw [hrpu, hview]
    exact if_pos ha

end Effect

/-! ## What the host is shown -/

/-- The part once the outcome is answered, as far as the decision and the reports that follow it can tell. -/
structure AnsweredFrom (s x : State) : Prop where
  keeps : Keeps { exc := true, rpu := true, mem := true } s x
  exc : x.exc = { s.exc with readIndex := x.exc.readIndex }
  down : x.takenDown.rpu = s.takenDown.rpu
  mem : s.takenDown.rpu.view ≠ none → x.mem = s.mem

section Completion

variable {s x : State} {h : OrderInHand} {res : OrderResult} {a : Action} {dt : Nat}

/-- PSQ's transition, HBW, KPS and RPU after a held decision is carried out, and the mirror (R77, R78, R98, R139). -/
def Carried (a : Action) (s t : State) : Prop :=
  DecisionCarriedOut a s t ∧ TakenDown s t ∧ KeypadFollows a s t ∧ t.psq.held = none ∧ t.hbw = s.watchStopped
    ∧ MirrorFollows s t ∧ Unchanged [.clock, .psq, .hbw, .exc, .rpu, .zc, .kps, .window] s t

/-- KPS's answer as a list of positions released, none but at the entry into HOLDOFF. -/
theorem follows_quieted {old : SeqState} (hold : old.up = true) (hup : x.psq.state.up = true) :
    ∃ l, Quieted l (carriedWith a x) ((carriedWith a x).keypadFollows old) := by
  rcases keypadFollows_carried hold (carriedWith_decision a hup) with ⟨-, -, hf⟩ | ⟨-, hf⟩
  · rw [hf]
    exact ⟨_, quieted_all _⟩
  · rw [hf]
    exact ⟨[], quieted_list List.nodup_nil _⟩

theorem alike_down (hx : AnsweredFrom (s.elapse dt) x) (hup : x.psq.state.up = true) : Alike s.takenDown (carriedWith a x) where
  rpu := (carriedWith_rpu a hup).trans hx.down
  uptime := (carriedWith_keeps a x).uptime.trans hx.keeps.uptime
  state := by rw [carriedWith_exc a hup]; rfl
  enable := by rw [carriedWith_exc a hup]; rfl
  mem hv := ((carriedWith_keeps a x).mem rfl).trans (hx.mem hv)

/-- KPS and RPU as the decision leaves them (R139, R187). -/
theorem keypadFollows_of {t : State} (hx : AnsweredFrom (s.elapse dt) x) (hup : x.psq.state.up = true)
    (hold : s.psq.state.up = true) (k : Keeps { mem := true } ((carriedWith a x).keypadFollows s.psq.state) t) :
    KeypadFollows a s t := by
  have kdown := carriedWith_keeps a x
  have halike := alike_down (a := a) hx hup
  have hkps : (carriedWith a x).kps = s.kps := (kdown.kps rfl).trans (hx.keeps.kps rfl)
  have hsst : (carriedWith a x).sst = s.sst := (kdown.sst rfl).trans (hx.keeps.sst rfl)
  rcases keypadFollows_carried hold (carriedWith_decision a hup) with ⟨rfl, hstate, hf⟩ | ⟨hne, hf⟩
  · rw [hf] at k
    have hq := quieted_all (carriedWith .holdoff x)
    have hclock : t.clock = (carriedWith .holdoff x).clock := k.clock.trans hq.keeps.clock
    have hrpu : t.rpu = (s.takenDown.createReports (s.quietReports t.clock)).rpu := by
      rw [k.rpu rfl, hq.reports.rpu, dueReports_holdoff hkps hsst hstate, hclock]
      exact (halike.createReports _).rpu
    refine ⟨keysQuieted_of hq hkps hsst hstate hclock (k.kps rfl) ?_, hrpu, fun hv => ?_⟩
    · exact (k.sst rfl).trans ((hq.keeps.sst rfl).trans hsst)
    · rw [hrpu, createReports_held _ hv]
      rfl
  · rw [hf] at k
    have hdone : t.kps = s.kps ∧ t.rpu = s.takenDown.rpu := ⟨(k.kps rfl).trans hkps, (k.rpu rfl).trans halike.rpu⟩
    cases a with
    | warm => exact hdone
    | cold => exact hdone
    | holdoff => exact absurd rfl hne

/-- The completion of a host's restart as the host is shown it. -/
theorem carried_of (hx : AnsweredFrom (s.elapse dt) x) (hup : s.psq.state.up = true)
    (hmirror : s.queueAside → ∀ w, 64 ≤ w → w < 192 → x.mem.word w = s.mem.word w) :
    Carried a s (State.publish {} (s.elapse dt) ((carriedWith a x).keypadFollows s.psq.state)) := by
  have hupx : x.psq.state.up = true := by rw [hx.keeps.psq rfl]; exact hup
  have kdown := carriedWith_keeps a x
  have halike := alike_down (a := a) hx hupx
  obtain ⟨l, hq⟩ := follows_quieted (a := a) hup hupx
  have k := publish_keeps {} (s.elapse dt) ((carriedWith a x).keypadFollows s.psq.state)
  have hexc := ((k.exc rfl).trans (hq.keeps.exc rfl)).trans (carriedWith_exc a hupx)
  have hpsq := (k.psq rfl).trans (hq.keeps.psq rfl)
  have hrpu := (k.rpu rfl).trans (hq.reports.rpu.trans (halike.createReports _).rpu)
  refine ⟨?_, takenDown_of hexc hrpu (by rw [hpsq]; exact carriedWith_hostReset a hupx),
    keypadFollows_of hx hupx hup k, by rw [hpsq]; exact carriedWith_held a hupx, ?_, publish_mirrorFollows fun hs w h1 h2 => ?_, ?_⟩
  · refine decision_congr ?_ ?_ ?_ ?_ hpsq (k.clock.trans hq.keeps.clock) ((k.zc rfl).trans (hq.keeps.zc rfl))
      (carriedWith_decision a hupx)
    · rw [hx.keeps.psq rfl]; rfl
    · rw [hx.keeps.uptime]; rfl
    · rw [hx.keeps.zc rfl]; rfl
    · rw [hx.keeps.sst rfl]; rfl
  · rw [k.hbw rfl, hq.keeps.hbw rfl, carriedWith_hbw a hupx, State.watchStopped, hx.keeps.hbw rfl]
    rfl
  · rw [← hmirror hs w h1 h2, ← kdown.mem rfl]
    refine word_eq_of_bytes fun b _ hb => hq.bytes b ?_
    rw [State.queueSpan, halike.rpu]
    cases hv : s.takenDown.rpu.view with
    | none => exact .inr (Nat.zero_le b)
    | some q =>
      have hview : s.rpu.view = some q := by
        have hv' : (if s.exc.state = .attached then none else s.rpu.view) = some q := hv
        split at hv'
        · cases hv'
        · exact hv'
      have := hs q hview
      exact .inl (by dsimp only; omega)
  · have kall : Keeps { psq := true, hbw := true, exc := true, rpu := true, zc := true, kps := true, mem := true } (s.elapse dt)
        (State.publish {} (s.elapse dt) ((carriedWith a x).keypadFollows s.psq.state)) :=
      (((hx.keeps.mono (by decide)).trans (kdown.mono (by decide))).trans (hq.keeps.mono (by decide))).trans (k.mono (by decide))
    exact unchanged_of_keeps kall (by intro b; cases b <;> decide)

/-- The bytes of a completion: the anchor, the two sections, what the answer wrote, and RPU's queue if the detach left it one. -/
theorem carried_bytesKept {spans : List (Nat × Nat)} (hx : AnsweredFrom (s.elapse dt) x) (hup : s.psq.state.up = true)
    (hbytes : BytesKept spans s x) (hanchor : anchorSpan ∈ spans) (hsup : supervisionSpan ∈ spans) (hpan : panelSpan ∈ spans)
    (hqueue : s.takenDown.rpu.view = none ∨ s.takenDown.queueSpan ∈ spans) :
    BytesKept spans s (State.publish {} (s.elapse dt) ((carriedWith a x).keypadFollows s.psq.state)) := by
  have hupx : x.psq.state.up = true := by rw [hx.keeps.psq rfl]; exact hup
  obtain ⟨l, hq⟩ := follows_quieted (a := a) hup hupx
  have hspan : (carriedWith a x).queueSpan = s.takenDown.queueSpan :=
    queueSpan_eq (congrArg ReportUnit.view (alike_down (a := a) hx hupx).rpu)
  refine publish_bytesKept (old := s.elapse dt) (fun b hb => ?_) (fun w hw _ => ⟨_, hanchor, anchorWatched_bounds hw⟩)
    (fun _ => hsup) fun _ => hpan
  rw [hq.bytes b ?_, (carriedWith_keeps a x).mem rfl]
  · exact hbytes b hb
  · rw [hspan]
    rcases hqueue with hv | hin
    · rw [State.queueSpan, hv]
      exact .inr (Nat.zero_le b)
    · exact hb _ hin

/-- Without a queue in view the words from the history region on are as the answer left them. -/
theorem carried_word (hx : AnsweredFrom (s.elapse dt) x) (hup : s.psq.state.up = true) (hv : s.takenDown.rpu.view = none)
    {w : Nat} (hw : 192 ≤ w) :
    (State.publish {} (s.elapse dt) ((carriedWith a x).keypadFollows s.psq.state)).mem.word w = x.mem.word w := by
  have hupx : x.psq.state.up = true := by rw [hx.keeps.psq rfl]; exact hup
  obtain ⟨l, hq⟩ := follows_quieted (a := a) hup hupx
  rw [publish_word_high hw, ← (carriedWith_keeps a x).mem rfl]
  refine word_eq_of_bytes fun b _ _ => hq.bytes b ?_
  rw [State.queueSpan, (alike_down (a := a) hx hupx).rpu, hv]
  exact .inr (Nat.zero_le b)

theorem carried_clock (hx : AnsweredFrom (s.elapse dt) x) (hup : s.psq.state.up = true) :
    (State.publish {} (s.elapse dt) ((carriedWith a x).keypadFollows s.psq.state)).clock = s.clock + dt := by
  have hupx : x.psq.state.up = true := by rw [hx.keeps.psq rfl]; exact hup
  obtain ⟨l, hq⟩ := follows_quieted (a := a) hup hupx
  exact (publish_keeps _ _ _).clock.trans (hq.keeps.clock.trans ((carriedWith_keeps a x).clock.trans hx.keeps.clock))

theorem carried_exc (hx : AnsweredFrom (s.elapse dt) x) (hup : s.psq.state.up = true) :
    (State.publish {} (s.elapse dt) ((carriedWith a x).keypadFollows s.psq.state)).exc =
      { s.detachedForRestart with readIndex := x.exc.readIndex, inHand := none } := by
  have hupx : x.psq.state.up = true := by rw [hx.keeps.psq rfl]; exact hup
  obtain ⟨l, hq⟩ := follows_quieted (a := a) hup hupx
  rw [(publish_keeps _ _ _).exc rfl, hq.keeps.exc rfl, carriedWith_exc a hupx, State.detachedForRestart, hx.exc]
  rfl

/-- The completion's command, where the decision's detach leaves the trigger nothing to take. -/
theorem exec_carried {next : IntakeReach} (hr : s.resetting = none) (hh : s.exc.inHand = some h) (hres : h.result = some res)
    (hk : OrderKind.ofCode h.record.code = some .requestRestart) (ha : s.psq.held = some a) (hup : s.psq.state.up = true)
    (hx : AnsweredFrom (s.elapse dt) (answeredWith h res (s.elapse dt))) :
    exec (.requestRestart dt (.complete next)) s = .next (State.publish {} (s.elapse dt)
      ((carriedWith a (answeredWith h res (s.elapse dt))).keypadFollows s.psq.state)) := by
  have hact : State.act {} State.completeOrder (s.elapse dt) = State.publish {} (s.elapse dt)
      ((carriedWith a (answeredWith h res (s.elapse dt))).keypadFollows s.psq.state) := by
    rw [State.act, completeOrder_held (s := s.elapse dt) hh hres ha hup]
    rfl
  rw [exec_complete hr hh hres hk, hact, trigger_detached]
  rw [carried_exc hx hup]
  rfl

end Completion

/-! ## Answered, or to be discarded -/

theorem answeredFrom_discarded {s : State} {h : OrderInHand} {res : OrderResult} (hd : h.discard = true) :
    AnsweredFrom s (answeredWith h res s) := by
  have he : answeredWith h res s = s := if_pos hd
  rw [he]
  exact ⟨.refl _ s, rfl, rfl, fun _ => rfl⟩

section Answer

variable {s : State} {h : OrderInHand} {res : OrderResult}

theorem writeOutcome_exc : (s.writeOutcome h res).exc = { s.exc with readIndex := s.exc.readIndex + 1 } := by
  unfold State.writeOutcome
  exact (raiseAttached_keeps _ _).exc rfl

/-- DONE is raised (R174, R188). -/
theorem writeOutcome_rpu (hatt : s.exc.state = .attached) : (s.writeOutcome h res).rpu =
    { s.rpu with pending := s.rpu.pending ||| noticeDone, attn := attnOf (s.rpu.pending ||| noticeDone) s.exc.enable } := by
  unfold State.writeOutcome
  rw [raiseAttached_rpu]
  exact if_pos hatt

theorem writeOutcome_mem : (s.writeOutcome h res).mem =
    (s.mem.setWords (h.entry + 6) [res.value, res.detail]).setWord h.entry (h.record.answer res.outcome) := by
  unfold State.writeOutcome
  exact (raiseAttached_keeps _ _).mem rfl

theorem writeOutcome_byte {b : Nat} (hb : b < 4 * h.entry ∨ 4 * (h.entry + 8) ≤ b) :
    (s.writeOutcome h res).mem.byte b = s.mem.byte b := by
  rw [writeOutcome_mem, byte_setWord_frame _ _ _ _ (by omega),
    byte_setWords_frame _ _ _ _ (by simp only [List.length_cons, List.length_nil]; omega)]

theorem writeOutcome_answered (he : entryInHostArea h.entry) : AnsweredAt h res (s.writeOutcome h res) := by
  obtain ⟨-, hend⟩ := he
  refine ⟨?_, ?_, ?_⟩ <;> rw [writeOutcome_mem]
  · rw [word_setWord_frame _ _ _ _ (by omega)]
    exact word_setWords_self _ _ [res.value, res.detail] 0 (by simp) (by omega)
  · rw [word_setWord_frame _ _ _ _ (by omega)]
    exact word_setWords_self _ _ [res.value, res.detail] 1 (by simp) (by omega)
  · exact word_setWord_self _ _ _ (by omega)

theorem answeredFrom_written (hatt : s.exc.state = .attached) (hd : h.discard = false) :
    AnsweredFrom s (answeredWith h res s) := by
  have he : answeredWith h res s = s.writeOutcome h res := if_neg (by simp [hd])
  rw [he]
  refine ⟨writeOutcome_keeps h res s, ?_, ?_, fun hv => absurd (if_pos hatt) hv⟩
  · rw [writeOutcome_exc]
  · rw [takenDown_rpu_eq, writeOutcome_rpu hatt, writeOutcome_exc]
    rfl

end Answer

/-- Settles O41: the take records the restart and holds it; the completion answers first, and carries it out then. -/
theorem restartIsHeldUntilAnswered : Obligations.RestartIsHeldUntilAnswered := by
  unfold Obligations.RestartIsHeldUntilAnswered
  refine ⟨fun dt r s hs h1 h2 => OrdersTaken.refusedWith_of_perform hs (orderRequestRestart_badOperand h1 h2),
    fun dt r s hs h hup => OrdersTaken.refusedWith_of_perform hs (orderRequestRestart_wrongState h hup),
    fun dt r s c a hs hca hup => restart_taken hs hca hup, fun dt next h res a s hans hres hk ha hup _ => ?_,
    fun dt next h res a s hr hh hd hres hk ha hup _ => ?_⟩
  · obtain ⟨hr, hatt, hh, hd, hentry, -⟩ := hans
    have hx := answeredFrom_written (s := s.elapse dt) (res := res) hatt hd
    have he : answeredWith h res (s.elapse dt) = (s.elapse dt).writeOutcome h res := if_neg (by simp [hd])
    have hv : s.takenDown.rpu.view = none := if_pos hatt
    have hbyte (b : Nat) (hb : b < 4 * h.entry ∨ 4 * (h.entry + 8) ≤ b) :
        (answeredWith h res (s.elapse dt)).mem.byte b = s.mem.byte b := by rw [he]; exact writeOutcome_byte hb
    refine ⟨_, exec_carried hr hh hres hk ha hup hx, carried_clock hx hup, ?_, ?_, carried_of hx hup fun _ w _ hw => ?_,
      carried_bytesKept hx hup (fun b hb => hbyte b ?_) (by simp) (by simp) (by simp) (.inl hv)⟩
    · obtain ⟨h1, h2, h3⟩ := writeOutcome_answered (s := s.elapse dt) (res := res) hentry
      rw [← he] at h1 h2 h3
      obtain ⟨hlow, -⟩ := hentry
      exact ⟨(carried_word hx hup hv (by omega)).trans h1, (carried_word hx hup hv (by omega)).trans h2,
        (carried_word hx hup hv (by omega)).trans h3⟩
    · rw [carried_exc hx hup, he, writeOutcome_exc]
      rfl
    · obtain ⟨hlow, -⟩ := hentry
      exact word_eq_of_bytes fun b _ hb => hbyte b (by omega)
    · exact hb (h.entry, h.entry + 8) (by simp)
  · have hx := answeredFrom_discarded (s := s.elapse dt) (res := res) hd
    have he : answeredWith h res (s.elapse dt) = s.elapse dt := if_pos hd
    refine ⟨_, exec_carried hr hh hres hk ha hup hx, carried_clock hx hup, ?_, carried_of hx hup fun _ w _ _ => ?_,
      carried_bytesKept hx hup (fun b _ => ?_) (by simp) (by simp) (by simp) (.inr (by simp))⟩
    · rw [carried_exc hx hup, he]
      rfl
    · rw [he]
      rfl
    · rw [he]
      rfl

end Sys2Proof.RestartsAnswered
end
